-- ==== Sys2Proof/Word.lean ====
section
/-! DEFINITION. The word types of the engine: a byte, the 32-bit bus and register word, the 64-bit
coefficient word (00_scope.md R11, R12). -/

namespace Sys2Proof

/-- One byte: a pixel, a message element, a byte of the container file (R11). -/
abbrev Byte := BitVec 8

/-- One register, and one command word: XLEN = 32 bits (R12). -/
abbrev Word := BitVec 32

/-- One coefficient word: CW = 64 bits, two's complement, format Q31.32 (R12, R17). -/
abbrev CoefWord := BitVec 64

end Sys2Proof
end

