-- ==== Sys2Proof/Config.lean ====
section
/-! DEFINITION. What is fixed for the engine (00_scope.md R11, R12), the two open parameters of R13,
and the free values: the contents of the memories after reset (10_state.md R44). -/

namespace Sys2Proof

namespace Config

/-- BS: side of a block (R11). -/
def blockSize : Nat := 8

/-- HDR_OFF: offset of the header field in the file (R11). -/
def headerOffset : Nat := 6

/-- HDR_SIZE: bytes of the header field (R11). -/
def headerSize : Nat := 4

/-- TF: fraction bits of the cosine and weight tables (R12). -/
def tableFractionBits : Nat := 30

/-- CF: fraction bits of a coefficient word (R12). -/
def coefFractionBits : Nat := 32

/-- FORCED_CAP: the "very large sentinel length" of forced mode (R12, R166). -/
def forcedCap : Nat := 2 ^ 32 - 1

/-- SELF_ROW: row of the coefficient that self-contained extraction reads (R12). -/
def selfRow : Nat := 0

/-- SELF_COL: column of the coefficient that self-contained extraction reads (R12). -/
def selfCol : Nat := 1

/-- ID_VALUE: what register ID reads as (R12, R37). -/
def idValue : Word := 0x00081E20

/-- The parameters that R13 leaves open; "the model takes them as arguments". State carries them
unchanged (log 3). -/
structure Params where
  /-- MAXPIX: elements in each of PIX0, PIX1, COEF0, COEF1. -/
  maxPix : Nat
  /-- MAXFILE: bytes in FILE. -/
  maxFile : Nat
  deriving DecidableEq, Repr

/-- MAXMSG = MAXPIX / 64: bytes in each of MSGIN and MSGOUT (R13). -/
def Params.maxMsg (p : Params) : Nat := p.maxPix / 64

/-- A byte of memory after a hardware reset and before anything wrote it: "each element holds some
value of its type that the spec does not fix" (R44). A FREE VALUE, of the number of resets so far and
the byte's address on the bus. DESIGN CHOICE: opaque, so no value can be proved of it (log 4). -/
opaque powerUp (resets address : Nat) : Byte

end Config

end Sys2Proof
end

