-- ==== Sys2Proof/Syntax.lean ====
section
/-! DEFINITION. The eleven commands (30_encoding.md R92), the names of the registers (10_state.md R23)
and of the memories (R39 to R42), and what can happen on the engine's bus (20_memory.md R66 to R68). -/

namespace Sys2Proof

/-- The bank operand b: one of the two pixel and coefficient memory pairs (R91). -/
inductive Bank
  | zero
  | one
  deriving DecidableEq, Repr

/-- The commands, one constructor per row of the opcode map (R92). -/
inductive Instr
  /-- R196 -/
  | nop
  /-- R197 -/
  | srst
  /-- R121 -/
  | fdct (b : Bank)
  /-- R122 -/
  | idct (b : Bank)
  /-- R142 -/
  | sel (b : Bank)
  /-- R150 -/
  | embed
  /-- R165 -/
  | xdiff
  /-- R170 -/
  | xself (b : Bank)
  /-- R187 -/
  | mpatch
  /-- R188 -/
  | mdetect
  /-- R189 -/
  | mread
  deriving DecidableEq, Repr

/-- The nineteen registers of R23, in the order of their numbers. -/
inductive Reg
  | cmd | status | ctrl | w0 | h0 | w1 | h1 | alphaLo | alphaHi | msgLen | bitCnt | blkY | blkX
  | selPos | selValLo | selValHi | fileLen | hdrLen | id
  deriving DecidableEq, Repr

/-- The seven memories of R39 to R42. -/
inductive MemId
  | pix0 | pix1 | coef0 | coef1 | msgIn | msgOut | file
  deriving DecidableEq, Repr

/-- One thing the outside world does to the engine: a bus read of `size` bytes (R66), a bus write of
`size` bytes (R67; the data are the low 8 * size bits of `data`, log 7), or the hardware reset (R230). -/
inductive BusEvent
  | read (addr : Word) (size : Nat)
  | write (addr : Word) (size : Nat) (data : Word)
  | reset
  deriving DecidableEq, Repr

/-- What the bus answers the host: the data of an admitted read (R66), the end of an admitted write
(R67), or the refusal of an access that is not admitted (R68). -/
inductive BusReply
  | data (v : Word)
  | written
  | busError
  deriving DecidableEq, Repr

end Sys2Proof
end

