-- ==== Sys2Proof/WellFormed.lean ====
section
/-! DEFINITION. Which terms of the syntax are well formed. Every check is a Bool, so that it runs. -/

namespace Sys2Proof

/-- Every command is well formed: its one possible operand, the bank, is of a type with exactly the two
values that bit 8 has (30_encoding.md R90, R91). -/
def Instr.wellFormed : Instr → Bool
  | .nop => true
  | .srst => true
  | .fdct _ => true
  | .idct _ => true
  | .sel _ => true
  | .embed => true
  | .xdiff => true
  | .xself _ => true
  | .mpatch => true
  | .mdetect => true
  | .mread => true

/-- A bus access of the form R66 and R67 speak of: the data of a write satisfy 0 ≤ v < 2^(8n). -/
def BusEvent.wellFormed : BusEvent → Bool
  | .read _ _ => true
  | .write _ size data => decide (data.toNat < 2 ^ (8 * size))
  | .reset => true

/-- The constraints of R13: MAXPIX a multiple of 64 from 64 to 2^25, MAXFILE from 10 to 2^28. -/
def Config.Params.wellFormed (p : Config.Params) : Bool :=
  decide (p.maxPix % 64 = 0) && decide (64 ≤ p.maxPix) && decide (p.maxPix ≤ 2 ^ 25) &&
    decide (10 ≤ p.maxFile) && decide (p.maxFile ≤ 2 ^ 28)

end Sys2Proof
end

