-- ==== Sys2Proof/Decode.lean ====
section
/-! DEFINITION. Decoding of the command word (30_encoding.md R90 to R93), total on every 32-bit word and
rejecting by name; after it the encoder, written from the same table. -/

namespace Sys2Proof

/-- Why a word is illegal (R93), in the order the decoder looks. -/
inductive DecodeError
  /-- a nonzero bit in 31:9 -/
  | reservedBits
  /-- OP is not one of the eleven -/
  | unknownOp (op : Byte)
  /-- bit 8 set on a command without a bank operand -/
  | strayBank
  deriving DecidableEq, Repr

/-- OP: bits 7:0 of the command word (R90). -/
def wordOp (c : Word) : Byte := c.extractLsb' 0 8

/-- B: bit 8 of the command word (R90). -/
def wordBankBit (c : Word) : Bool := c.getLsbD 8

/-- ZERO: bits 31:9 of the command word (R90). -/
def wordZero (c : Word) : BitVec 23 := c.extractLsb' 9 23

/-- The bank a bank bit names, used as is (R91). -/
def bankOfBit : Bool → Bank
  | false => .zero
  | true => .one

/-- A command without a bank operand: bit 8 must be 0 (R90, R93). -/
def withoutBank (bit8 : Bool) (i : Instr) : Except DecodeError Instr :=
  if bit8 then .error .strayBank else .ok i

/-- The command a word encodes, by the opcode map of R92; every other word is illegal (R93). -/
def decode (c : Word) : Except DecodeError Instr :=
  if wordZero c ≠ 0 then .error .reservedBits
  else
    match (wordOp c).toNat with
    | 0x00 => withoutBank (wordBankBit c) .nop
    | 0x01 => withoutBank (wordBankBit c) .srst
    | 0x10 => .ok (.fdct (bankOfBit (wordBankBit c)))
    | 0x11 => .ok (.idct (bankOfBit (wordBankBit c)))
    | 0x12 => .ok (.sel (bankOfBit (wordBankBit c)))
    | 0x20 => withoutBank (wordBankBit c) .embed
    | 0x30 => withoutBank (wordBankBit c) .xdiff
    | 0x31 => .ok (.xself (bankOfBit (wordBankBit c)))
    | 0x40 => withoutBank (wordBankBit c) .mpatch
    | 0x41 => withoutBank (wordBankBit c) .mdetect
    | 0x42 => withoutBank (wordBankBit c) .mread
    | _ => .error (.unknownOp (wordOp c))

/-- The command in an opcode-table row whose bits are `w`; bits above `nbits` are 0. A command is one
32-bit word, so nothing is laid out in memory (R90). -/
def decodeTableWord (nbits w : Nat) : Option Instr :=
  match decode (BitVec.ofNat 32 (w % 2 ^ nbits)) with
  | .ok i => some i
  | .error _ => none

/-- The bit of a bank (R91). -/
def bankBit : Bank → Bool
  | .zero => false
  | .one => true

/-- A command word from its fields: 31:9 zero, 8 the bank, 7:0 the opcode (R90). -/
def commandWord (op : Byte) (bit8 : Bool) : Word :=
  ((0 : BitVec 23) ++ BitVec.ofBool bit8) ++ op

/-- The word of a command (R92). -/
def encode : Instr → Word
  | .nop => commandWord 0x00 false
  | .srst => commandWord 0x01 false
  | .fdct b => commandWord 0x10 (bankBit b)
  | .idct b => commandWord 0x11 (bankBit b)
  | .sel b => commandWord 0x12 (bankBit b)
  | .embed => commandWord 0x20 false
  | .xdiff => commandWord 0x30 false
  | .xself b => commandWord 0x31 (bankBit b)
  | .mpatch => commandWord 0x40 false
  | .mdetect => commandWord 0x41 false
  | .mread => commandWord 0x42 false

/-- One row of the opcode map of R92: a word c is of the row when (c AND mask) = value. -/
structure OpcodeRow where
  mnemonic : String
  value : Word
  mask : Word
  deriving DecidableEq, Repr

/-- The opcode map of R92, row by row. -/
def opcodeMap : List OpcodeRow :=
  [ ⟨"NOP", 0x00000000, 0xFFFFFFFF⟩, ⟨"SRST", 0x00000001, 0xFFFFFFFF⟩,
    ⟨"FDCT", 0x00000010, 0xFFFFFEFF⟩, ⟨"IDCT", 0x00000011, 0xFFFFFEFF⟩,
    ⟨"SEL", 0x00000012, 0xFFFFFEFF⟩, ⟨"EMBED", 0x00000020, 0xFFFFFFFF⟩,
    ⟨"XDIFF", 0x00000030, 0xFFFFFFFF⟩, ⟨"XSELF", 0x00000031, 0xFFFFFEFF⟩,
    ⟨"MPATCH", 0x00000040, 0xFFFFFFFF⟩, ⟨"MDETECT", 0x00000041, 0xFFFFFFFF⟩,
    ⟨"MREAD", 0x00000042, 0xFFFFFFFF⟩ ]

/-- The mnemonic of a command in the opcode map (R92). -/
def Instr.mnemonic : Instr → String
  | .nop => "NOP"
  | .srst => "SRST"
  | .fdct _ => "FDCT"
  | .idct _ => "IDCT"
  | .sel _ => "SEL"
  | .embed => "EMBED"
  | .xdiff => "XDIFF"
  | .xself _ => "XSELF"
  | .mpatch => "MPATCH"
  | .mdetect => "MDETECT"
  | .mread => "MREAD"

/-- The bank digit of the assembler syntax (R94). -/
def bankDigit : Bank → String
  | .zero => "0"
  | .one => "1"

/-- The assembler text of a command: its mnemonic, then the bank digit for the four commands that take
one (R94). -/
def Instr.assembler : Instr → String
  | .nop => "NOP"
  | .srst => "SRST"
  | .fdct b => "FDCT " ++ bankDigit b
  | .idct b => "IDCT " ++ bankDigit b
  | .sel b => "SEL " ++ bankDigit b
  | .embed => "EMBED"
  | .xdiff => "XDIFF"
  | .xself b => "XSELF " ++ bankDigit b
  | .mpatch => "MPATCH"
  | .mdetect => "MDETECT"
  | .mread => "MREAD"

end Sys2Proof
end

