-- ==== Sys2Proof/Machine/State.lean ====
section
/-! DEFINITION. The state of the engine as plain data: the registers of 10_state.md R23, the memories of
R39 to R42, and the model's own fields for the world outside; the reasons a step can stop; the state
after reset (R44, 70_reset_and_hazards.md R230). -/

namespace Sys2Proof.Machine

/-- The eight values of STATUS.ERR; "No other value is ever written" (60_exceptions.md R201). -/
inductive ErrCode
  /-- 0: the command did what its rule says -/
  | ok
  /-- 1: the word matches no row of the opcode map -/
  | illCmd
  /-- 2: the two banks' dimensions differ -/
  | dimMis
  /-- 3: DimsOK is false -/
  | dimInv
  /-- 4: completion status of XDIFF, no bit decoded -/
  | ident
  /-- 5: a message byte that would be used is neither 0x00 nor 0x01 -/
  | msgFmt
  /-- 6: FILELEN out of range -/
  | fileRng
  /-- 7: block coordinate outside the grid -/
  | blkRng
  deriving DecidableEq, Repr

/-- One memory: the bytes written since the last hardware reset, by byte offset in the memory's region,
offsets strictly rising (`Memory.wf`). An offset that is not listed holds nothing written since reset and
reads as the free value `Config.powerUp` (log 4). -/
abbrev Memory := List Host.Cell

/-- The whole state. `params`, `resets`, `bus` and `reply` are the model's own (logs 1, 2, 3, 5); every
other field is a register or a memory of the spec. -/
structure State where
  /-- MAXPIX and MAXFILE (R13); no step changes them -/
  params : Config.Params
  /-- hardware resets so far: names the free values of the memories -/
  resets : Nat
  /-- what the outside world will do next, oldest first (R78) -/
  bus : List BusEvent
  /-- the bus's answer to the last access (R66 to R68) -/
  reply : Option BusReply
  /-- STATUS.ERR (R25) -/
  err : ErrCode
  /-- STATUS.DET (R25) -/
  det : Bool
  /-- CTRL.FORCED (R26) -/
  forced : Bool
  /-- R27 -/
  w0 : Word
  /-- R27 -/
  h0 : Word
  /-- R27 -/
  w1 : Word
  /-- R27 -/
  h1 : Word
  /-- R28 -/
  alphaLo : Word
  /-- R28 -/
  alphaHi : Word
  /-- R29 -/
  msgLen : Word
  /-- R30 -/
  bitCnt : Word
  /-- R31 -/
  blkY : Word
  /-- R31 -/
  blkX : Word
  /-- SELPOS: ROW in bits 5:3, COL in bits 2:0 (R32) -/
  selPos : BitVec 6
  /-- R33 -/
  selValLo : Word
  /-- R33 -/
  selValHi : Word
  /-- R34 -/
  fileLen : Word
  /-- R35 -/
  hdrLen : Word
  /-- R39 -/
  pix0 : Memory
  /-- R39 -/
  pix1 : Memory
  /-- R40, as bytes in the layout of R64 -/
  coef0 : Memory
  /-- R40, as bytes in the layout of R64 -/
  coef1 : Memory
  /-- R41 -/
  msgIn : Memory
  /-- R41 -/
  msgOut : Memory
  /-- R42 -/
  file : Memory
  deriving DecidableEq, Repr

/-- Reasons to stop with a fault. There is none: a command's fault sets STATUS.ERR and the machine goes on
(60_exceptions.md R200, R203), and an access that is not admitted is refused on the bus (20_memory.md R68).
Nobody raises a Fault, so the type is empty (safe: no claim can rest on a stop). -/
inductive Fault
  deriving DecidableEq, Repr

/-- Reasons to refuse an instruction. -/
inductive Refusal
  /-- Raised only by an arm of `exec` for a command without a meaning; no arm is one now (safe: nothing is
  claimed of such a command). -/
  | notModelled (mnemonic : String)
  deriving DecidableEq, Repr

/-- The outcome of a command or a step. -/
abbrev Result := Host.Outcome State Fault Refusal

/-- The parameters the model gives the machine at reset: MAXPIX = 128 and MAXFILE = 16, the values of the
spec's own bus vectors (95_test_vectors.md V27). DESIGN CHOICE (log 3). -/
def defaultParams : Config.Params := ⟨128, 16⟩

/-- The state right after reset: registers at the values of R23 and R230, nothing written in any memory
since, and no access of the host yet. -/
def State.reset : State where
  params := defaultParams
  resets := 0
  bus := []
  reply := none
  err := .ok
  det := false
  forced := false
  w0 := 0
  h0 := 0
  w1 := 0
  h1 := 0
  alphaLo := 0
  alphaHi := 0
  msgLen := 0
  bitCnt := 0
  blkY := 0
  blkX := 0
  selPos := 0
  selValLo := 0
  selValHi := 0
  fileLen := 0
  hdrLen := 0
  pix0 := []
  pix1 := []
  coef0 := []
  coef1 := []
  msgIn := []
  msgOut := []
  file := []

end Sys2Proof.Machine
end

