-- ==== Sys2Proof/Machine/Ops.lean ====
section
/-! DEFINITION. The named operations over the memories and the registers, byte order, and taking a fault. -/

namespace Sys2Proof.Machine

/-! ### Bytes and byte order (20_memory.md R64, R65: little-endian everywhere) -/

/-- The `n` bytes of a value, least significant first. -/
def leBytes (n v : Nat) : List Byte :=
  (List.range n).map fun k => BitVec.ofNat 8 (v / 2 ^ (8 * k))

/-- The unsigned value of bytes, least significant first. -/
def leValue : List Byte → Nat
  | [] => 0
  | b :: bs => b.toNat + 256 * leValue bs

/-! ### One memory -/

/-- The canonical form: offsets strictly rising (an offset not listed holds nothing, so no entry equals what
an unlisted offset holds; log 4). -/
abbrev Memory.wf (m : Memory) : Prop := (m.map Prod.fst).Pairwise (· < ·)

/-- Every listed offset is below `n`, the size of the memory. -/
abbrev Memory.within (m : Memory) (n : Nat) : Prop := ∀ c ∈ m, c.1 < n

/-- The byte written at an offset since reset, if any. -/
def Memory.fetch : Memory → Nat → Option Byte
  | [], _ => none
  | c :: m, x => if x = c.1 then some c.2 else Memory.fetch m x

/-- The cells of consecutive bytes from offset `a`. -/
def Memory.cells : Nat → List Byte → Memory
  | _, [] => []
  | a, b :: bs => (a, b) :: Memory.cells (a + 1) bs

/-- Write consecutive bytes from offset `a`, replacing what was there. -/
def Memory.store (m : Memory) (a : Nat) (bs : List Byte) : Memory :=
  (m.filter fun c => decide (c.1 < a)) ++ Memory.cells a bs ++
    m.filter fun c => decide (a + bs.length ≤ c.1)

/-! ### The seven memories of a state -/

/-- Base address of a memory's region on the bus (20_memory.md R61). -/
def memBase : MemId → Nat
  | .pix0 => 0x10000000
  | .pix1 => 0x20000000
  | .coef0 => 0x30000000
  | .coef1 => 0x40000000
  | .msgIn => 0x50000000
  | .msgOut => 0x60000000
  | .file => 0x70000000

/-- Size of a memory in bytes (R61): a coefficient is 8 bytes. -/
def memSize (p : Config.Params) : MemId → Nat
  | .pix0 => p.maxPix
  | .pix1 => p.maxPix
  | .coef0 => 8 * p.maxPix
  | .coef1 => 8 * p.maxPix
  | .msgIn => p.maxMsg
  | .msgOut => p.maxMsg
  | .file => p.maxFile

/-- The contents of a memory. -/
def State.mem (s : State) : MemId → Memory
  | .pix0 => s.pix0
  | .pix1 => s.pix1
  | .coef0 => s.coef0
  | .coef1 => s.coef1
  | .msgIn => s.msgIn
  | .msgOut => s.msgOut
  | .file => s.file

/-- Replace the contents of one memory. -/
def State.setMem (s : State) (id : MemId) (m : Memory) : State :=
  match id with
  | .pix0 => { s with pix0 := m }
  | .pix1 => { s with pix1 := m }
  | .coef0 => { s with coef0 := m }
  | .coef1 => { s with coef1 := m }
  | .msgIn => { s with msgIn := m }
  | .msgOut => { s with msgOut := m }
  | .file => { s with file := m }

/-- THE READ OF ONE BYTE of a memory: the byte written since reset, else the free value it came up with
(10_state.md R44, 70_reset_and_hazards.md R233; log 4). -/
def State.byteAt (s : State) (id : MemId) (i : Nat) : Byte :=
  ((s.mem id).fetch i).getD (Config.powerUp s.resets (memBase id + i))

/-- Write consecutive bytes of one memory. -/
def State.storeBytes (s : State) (id : MemId) (a : Nat) (bs : List Byte) : State :=
  s.setMem id ((s.mem id).store a bs)

/-- PIXb (R91). -/
def pixId : Bank → MemId
  | .zero => .pix0
  | .one => .pix1

/-- COEFb (R91). -/
def coefId : Bank → MemId
  | .zero => .coef0
  | .one => .coef1

/-- Element `i` of COEFb as a 64-bit word: the 8 bytes at offsets 8i to 8i+7, least significant first (R64). -/
def State.coefWord (s : State) (b : Bank) (i : Nat) : CoefWord :=
  BitVec.ofNat 64 (leValue ((List.range 8).map fun k => s.byteAt (coefId b) (8 * i + k)))

/-- Element `i` of COEFb as the signed integer it is (00_scope.md R16, R17). -/
def State.coefAt (s : State) (b : Bank) (i : Nat) : Int := (s.coefWord b i).toInt

/-- The first `n` pixels of PIXb as integers. -/
def State.pixPlane (s : State) (b : Bank) (n : Nat) : List Int :=
  (List.range n).map fun i => ((s.byteAt (pixId b) i).toNat : Int)

/-- The first `n` coefficients of COEFb. -/
def State.coefPlane (s : State) (b : Bank) (n : Nat) : List Int :=
  (List.range n).map fun i => s.coefAt b i

/-- Pixels as the bytes of a pixel memory. -/
def pixBytes (ps : List Int) : List Byte := ps.map fun p => BitVec.ofInt 8 p

/-- Coefficients as the bytes of a coefficient memory: two's complement, least significant byte first (R64). -/
def coefBytes (cs : List Int) : List Byte := cs.flatMap fun c => leBytes 8 (BitVec.ofInt 64 c).toNat

/-- PIXb[0 .. n-1] <- ps. -/
def State.writePix (s : State) (b : Bank) (ps : List Int) : State := s.storeBytes (pixId b) 0 (pixBytes ps)

/-- COEFb[0 .. n-1] <- cs. -/
def State.writeCoef (s : State) (b : Bank) (cs : List Int) : State := s.storeBytes (coefId b) 0 (coefBytes cs)

/-! ### Registers the commands write (10_state.md R23, R45) -/

/-- R.STATUS.ERR <- c -/
def State.setErr (s : State) (c : ErrCode) : State := { s with err := c }

/-- R.STATUS.DET <- d -/
def State.setDet (s : State) (d : Bool) : State := { s with det := d }

/-- R.BITCNT <- n -/
def State.setBitCnt (s : State) (n : Nat) : State := { s with bitCnt := BitVec.ofNat 32 n }

/-- R.W1 <- w ; R.H1 <- h -/
def State.setDims1 (s : State) (w h : Word) : State := { s with w1 := w, h1 := h }

/-- R.HDRLEN <- v -/
def State.setHdrLen (s : State) (v : Nat) : State := { s with hdrLen := BitVec.ofNat 32 v }

/-- R.SELPOS <- 8r + c ; R.SELVAL_HI : R.SELVAL_LO <- v (R32, R33). -/
def State.setSelection (s : State) (r c : Nat) (v : CoefWord) : State :=
  { s with
    selPos := BitVec.ofNat 6 (8 * r + c)
    selValLo := v.extractLsb' 0 32
    selValHi := v.extractLsb' 32 32 }

/-- Every register to its reset value, the memories kept (45_system.md R197). The model's own fields stay. -/
def State.resetRegisters (s : State) : State :=
  { State.reset with
    params := s.params, resets := s.resets, bus := s.bus, reply := s.reply
    pix0 := s.pix0, pix1 := s.pix1, coef0 := s.coef0, coef1 := s.coef1
    msgIn := s.msgIn, msgOut := s.msgOut, file := s.file }

/-- The hardware reset (70_reset_and_hazards.md R230): registers to their reset values, every memory
unspecified, which is a fresh free value in each element (`resets` has advanced; logs 4 and 5). -/
def State.hardReset (s : State) : State :=
  { State.reset with params := s.params, bus := s.bus, resets := s.resets + 1 }

/-! ### The model's own fields: the stream of events and the bus's answer (logs 1 and 2) -/

/-- The events still to come. -/
def State.setBus (s : State) (es : List BusEvent) : State := { s with bus := es }

/-- The bus answers the host. -/
def State.answer (s : State) (r : BusReply) : State := { s with reply := some r }

/-! ### Taking a fault -/

/-- raise Fault(CODE) (60_exceptions.md R203): STATUS.ERR takes the code and nothing else changes; control
goes nowhere, so there is nothing to return from (R216). -/
def raiseFault (c : ErrCode) (s : State) : State := s.setErr c

end Sys2Proof.Machine
end

