-- ==== Sys2Proof/Machine/Fixed.lean ====
section
/-! DEFINITION. The arithmetic primitives of 00_scope.md R16, on integers of unbounded width (R14), and the
two table functions of 40_block_transform.md R112 to R115. -/

namespace Sys2Proof.Machine

/-- rhu(v, n), round half up: floor((v + 2^(n-1)) / 2^n), n ≥ 1. -/
def rhu (v : Int) (n : Nat) : Int := (v + 2 ^ (n - 1)) / 2 ^ n

/-- trunc0(v, n), truncation toward zero. -/
def trunc0 (v : Int) (n : Nat) : Int := if 0 ≤ v then v / 2 ^ n else -((-v) / 2 ^ n)

/-- sat64(v): saturation to the signed 64-bit range. -/
def sat64 (v : Int) : Int := max (-2 ^ 63) (min (2 ^ 63 - 1) v)

/-- clamp8(v): saturation to 0..255. -/
def clamp8 (v : Int) : Int := max 0 (min 255 v)

/-- The cosine magnitudes M[0] to M[8], the normative literals of R112. -/
def cosMagnitude : Nat → Int
  | 0 => 1073741824
  | 1 => 1053110176
  | 2 => 992008094
  | 3 => 892783698
  | 4 => 759250125
  | 5 => 596538995
  | 6 => 410903207
  | 7 => 209476638
  | _ => 0

/-- CT(n), the signed cosine of n·π/16 with 30 fraction bits (R113). -/
def cosTable (n : Nat) : Int :=
  let r := n % 32
  let r' := if r ≤ 16 then r else 32 - r
  if r' ≤ 8 then cosMagnitude r' else -cosMagnitude (16 - r')

/-- The basis table C[k][i] = CT((2i + 1)k) (R114). -/
def basis (k i : Nat) : Int := cosTable ((2 * i + 1) * k)

/-- The weight table W(k, l) (R115). -/
def weight (k l : Nat) : Int :=
  if k = 0 ∧ l = 0 then 1073741824
  else if k ≠ 0 ∧ l ≠ 0 then 2147483648
  else 1518500250

/-- The sum of f(0) to f(7). -/
def sum8 (f : Nat → Int) : Int := f 0 + f 1 + f 2 + f 3 + f 4 + f 5 + f 6 + f 7

end Sys2Proof.Machine
end

