-- ==== Sys2Proof/Machine/Flags.lean ====
section
/-! DEFINITION. The status and mode bits as the words the host reads and writes (10_state.md R25, R26, R32,
R36, R38): the engine has no arithmetic flags. -/

namespace Sys2Proof.Machine

/-- The numbers of 60_exceptions.md R201. -/
def errNumber : ErrCode → BitVec 8
  | .ok => 0
  | .illCmd => 1
  | .dimMis => 2
  | .dimInv => 3
  | .ident => 4
  | .msgFmt => 5
  | .fileRng => 6
  | .blkRng => 7

/-- STATUS as it reads: ERR in 7:0, DET in 8, 31:9 read 0 (R25). -/
def statusWord (s : State) : Word := ((0 : BitVec 23) ++ BitVec.ofBool s.det) ++ errNumber s.err

/-- CTRL as it reads: FORCED in 0, 31:1 read 0 (R26). -/
def ctrlWord (s : State) : Word := (0 : BitVec 31) ++ BitVec.ofBool s.forced

/-- What a write to CTRL stores: bit 0; the other bits are dropped (R26). -/
def forcedOfWord (v : Word) : Bool := v.getLsbD 0

/-- SELPOS as it reads: ROW in 5:3, COL in 2:0, 31:6 read 0 (R32). -/
def selPosWord (s : State) : Word := (0 : BitVec 26) ++ s.selPos

end Sys2Proof.Machine
end

