-- ==== Sys2Proof/Machine/Operands.lean ====
section
/-! DEFINITION. The operands of the commands: a bank's dimensions, the alpha word, plane and block addressing,
the raster order, and the precondition checks. -/

namespace Sys2Proof.Machine

/-- Wb (30_encoding.md R91). -/
def State.widthReg (s : State) : Bank → Word
  | .zero => s.w0
  | .one => s.w1

/-- Hb (R91). -/
def State.heightReg (s : State) : Bank → Word
  | .zero => s.h0
  | .one => s.h1

/-- Wb as a number of pixels. -/
def State.width (s : State) (b : Bank) : Nat := (s.widthReg b).toNat

/-- Hb as a number of pixels. -/
def State.height (s : State) (b : Bank) : Nat := (s.heightReg b).toNat

/-- ALPHA = sext_64(ALPHA_HI : ALPHA_LO) (10_state.md R28). -/
def State.alpha (s : State) : Int := (s.alphaHi ++ s.alphaLo : BitVec 64).toInt

/-- DimsOK(w, h) (40_block_transform.md R116); the product is on unbounded integers. -/
abbrev dimsOK (p : Config.Params) (w h : Nat) : Prop := w % 8 = 0 ∧ h % 8 = 0 ∧ w * h ≤ p.maxPix

/-- FileOK (44_metadata.md R186). -/
abbrev State.fileOK (s : State) : Prop := 10 ≤ s.fileLen.toNat ∧ s.fileLen.toNat ≤ s.params.maxFile

/-- The number of blocks of a plane, its capacity in message bits (42_embedder.md R150, R153). -/
def capacity (w h : Nat) : Nat := (w / 8) * (h / 8)

/-- BlkIdx(w, by, bx, row, col), the plane element of a block element (20_memory.md R73). -/
def blkIdx (w y x row col : Nat) : Nat := (8 * y + row) * w + (8 * x + col)

/-- The block (y, x) of a plane of width `w`, as a function of (row, col) (R73). -/
def planeBlock (plane : List Int) (w y x row col : Nat) : Int := plane.getD (blkIdx w y x row col) 0

/-- The blocks of a plane in raster order: row of blocks, then column of blocks (10_state.md R22); the
`t`-th block is (t / (w/8), t mod (w/8)) (42_embedder.md R156). DEDUCED (log 8). -/
def rasterBlocks (w h : Nat) : List (Nat × Nat) :=
  (List.range (capacity w h)).map fun t => (t / (w / 8), t % (w / 8))

/-- The limit of XDIFF: FORCED_CAP in forced mode, else MSGLEN (43_extractor.md R165, R166). -/
def State.diffLimit (s : State) : Nat := if s.forced then Config.forcedCap else s.msgLen.toNat

end Sys2Proof.Machine
end

