-- ==== Sys2Proof/Machine/Bus.lean ====
section
/-! DEFINITION. The host's bus: which accesses are admitted and what they reach (20_memory.md R60 to R69), the
registers as the host reads and writes them (10_state.md R23 to R37). What a write to CMD carries is handed
to the step (Step.lean), which runs the command. -/

namespace Sys2Proof.Machine

/-- The registers in the order of their numbers (R23). -/
def registers : List Reg :=
  [.cmd, .status, .ctrl, .w0, .h0, .w1, .h1, .alphaLo, .alphaHi, .msgLen, .bitCnt, .blkY, .blkX,
    .selPos, .selValLo, .selValHi, .fileLen, .hdrLen, .id]

/-- The number of a register (R23). -/
def regNumber : Reg → Nat
  | .cmd => 0
  | .status => 1
  | .ctrl => 2
  | .w0 => 3
  | .h0 => 4
  | .w1 => 5
  | .h1 => 6
  | .alphaLo => 7
  | .alphaHi => 8
  | .msgLen => 9
  | .bitCnt => 10
  | .blkY => 11
  | .blkX => 12
  | .selPos => 13
  | .selValLo => 14
  | .selValHi => 15
  | .fileLen => 16
  | .hdrLen => 17
  | .id => 18

/-- What the host reads in a register (R23: CMD reads 0; R24 to R37). -/
def readReg (s : State) : Reg → Word
  | .cmd => 0
  | .status => statusWord s
  | .ctrl => ctrlWord s
  | .w0 => s.w0
  | .h0 => s.h0
  | .w1 => s.w1
  | .h1 => s.h1
  | .alphaLo => s.alphaLo
  | .alphaHi => s.alphaHi
  | .msgLen => s.msgLen
  | .bitCnt => s.bitCnt
  | .blkY => s.blkY
  | .blkX => s.blkX
  | .selPos => selPosWord s
  | .selValLo => s.selValLo
  | .selValHi => s.selValHi
  | .fileLen => s.fileLen
  | .hdrLen => s.hdrLen
  | .id => Config.idValue

/-- What a host write stores in a register: nothing in a read-only one (R36), bit 0 in CTRL (R26). CMD stores
nothing (R24): the step runs the command. -/
def writeReg (s : State) (v : Word) : Reg → State
  | .cmd => s
  | .status => s
  | .ctrl => { s with forced := forcedOfWord v }
  | .w0 => { s with w0 := v }
  | .h0 => { s with h0 := v }
  | .w1 => { s with w1 := v }
  | .h1 => { s with h1 := v }
  | .alphaLo => { s with alphaLo := v }
  | .alphaHi => { s with alphaHi := v }
  | .msgLen => { s with msgLen := v }
  | .bitCnt => s
  | .blkY => { s with blkY := v }
  | .blkX => { s with blkX := v }
  | .selPos => s
  | .selValLo => s
  | .selValHi => s
  | .fileLen => { s with fileLen := v }
  | .hdrLen => { s with hdrLen := v }
  | .id => s

/-- What an admitted access reaches (R61, R66). -/
inductive BusTarget
  /-- region 0 -/
  | register (r : Reg)
  /-- regions 1, 2, 5, 6, 7: one byte of a byte memory -/
  | byte (id : MemId) (off : Nat)
  /-- regions 3, 4: one 32-bit half of a coefficient, at a byte offset that is a multiple of 4 (R64) -/
  | half (b : Bank) (off : Nat)
  deriving DecidableEq, Repr

/-- The region of an address, bits 31:28 (R60). -/
def addrRegion (addr : Word) : Nat := (addr.extractLsb' 28 4).toNat

/-- The offset of an address, bits 27:0 (R60). -/
def addrOffset (addr : Word) : Nat := (addr.extractLsb' 0 28).toNat

/-- One byte of a byte memory, when the offset is inside it and the access is of one byte (R66). -/
def byteTarget (p : Config.Params) (id : MemId) (size off : Nat) : Option BusTarget :=
  if size = 1 ∧ off < memSize p id then some (.byte id off) else none

/-- One half of a coefficient, when the access is of 4 aligned bytes inside the memory (R66). -/
def halfTarget (p : Config.Params) (b : Bank) (size off : Nat) : Option BusTarget :=
  if size = 4 ∧ off % 4 = 0 ∧ off < memSize p (coefId b) then some (.half b off) else none

/-- One register, when the access is of 4 aligned bytes at offset at most 0x48 (R66). -/
def registerTarget (size off : Nat) : Option BusTarget :=
  if size = 4 ∧ off % 4 = 0 then (registers[off / 4]?).map .register else none

/-- What an access reaches; none when it is not admitted (R66). -/
def busTarget (p : Config.Params) (addr : Word) (size : Nat) : Option BusTarget :=
  match addrRegion addr with
  | 0 => registerTarget size (addrOffset addr)
  | 1 => byteTarget p .pix0 size (addrOffset addr)
  | 2 => byteTarget p .pix1 size (addrOffset addr)
  | 3 => halfTarget p .zero size (addrOffset addr)
  | 4 => halfTarget p .one size (addrOffset addr)
  | 5 => byteTarget p .msgIn size (addrOffset addr)
  | 6 => byteTarget p .msgOut size (addrOffset addr)
  | 7 => byteTarget p .file size (addrOffset addr)
  | _ => none

/-- The data of an admitted read (R66); a byte comes zero-extended (log 7). -/
def readTarget (s : State) : BusTarget → Word
  | .register r => readReg s r
  | .byte id off => (s.byteAt id off).setWidth 32
  | .half b off =>
    if off % 8 = 0 then (s.coefWord b (off / 8)).extractLsb' 0 32
    else (s.coefWord b (off / 8)).extractLsb' 32 32

/-- An admitted write other than of CMD (R67): a register, one byte (the low byte of the data, log 7), or
the four bytes of one half of a coefficient, the other half kept (R64). -/
def writeTarget (s : State) (v : Word) : BusTarget → State
  | .register r => writeReg s v r
  | .byte id off => s.storeBytes id off [v.extractLsb' 0 8]
  | .half b off => s.storeBytes (coefId b) off (leBytes 4 v.toNat)

/-- What an event does before any command runs: it is over, or it hands a command word to the step. -/
inductive BusEffect
  | done (s : State)
  | command (c : Word) (s : State)
  deriving DecidableEq, Repr

/-- One event, on a state whose `bus` it has already left. A read changes no state (R66); an access that is
not admitted changes none either (R68); writing CMD executes the word (R24, R67); reset is R230. -/
def busEffect (e : BusEvent) (s : State) : BusEffect :=
  match e with
  | .read addr size =>
    match busTarget s.params addr size with
    | some t => .done (s.answer (.data (readTarget s t)))
    | none => .done (s.answer .busError)
  | .write addr size v =>
    match busTarget s.params addr size with
    | some (.register .cmd) => .command v (s.answer .written)
    | some t => .done ((writeTarget s v t).answer .written)
    | none => .done (s.answer .busError)
  | .reset => .done s.hardReset

end Sys2Proof.Machine
end

