-- ==== Sys2Proof/Machine/Transform.lean ====
section
/-! DEFINITION. The Block Transform: the block and plane functions of 40_block_transform.md R117 to R120 and
the commands FDCT (R121) and IDCT (R122). A block is a function of (row, col), a plane the list of its
elements in row-major order (00_scope.md R18). -/

namespace Sys2Proof.Machine

/-- A of R117: Σ_i Σ_j P[i][j] · C[k][i] · C[l][j], exact, 60 fraction bits. -/
def fdctSum (P : Nat → Nat → Int) (k l : Nat) : Int :=
  sum8 fun i => sum8 fun j => P i j * basis k i * basis l j

/-- FdctBlock(P)[k][l] (R117): one rounding, to 32 fraction bits. -/
def fdctBlock (P : Nat → Nat → Int) (k l : Nat) : Int := rhu (fdctSum P k l * weight k l) 61

/-- S of R118: Σ_k Σ_l F[k][l] · W(k,l) · C[k][i] · C[l][j], exact, 122 fraction bits. -/
def idctSum (F : Nat → Nat → Int) (i j : Nat) : Int :=
  sum8 fun k => sum8 fun l => F k l * weight k l * basis k i * basis l j

/-- IdctBlock(F)[i][j] (R118): truncation toward zero, then saturation to 0..255. -/
def idctBlock (F : Nat → Nat → Int) (i j : Nat) : Int := clamp8 (trunc0 (idctSum F i j) 125)

/-- A block function applied to every block of a plane of width `w` and height `h`: element e lies in block
(e/w/8, (e mod w)/8) at position ((e/w) mod 8, (e mod w) mod 8). -/
def mapBlocks (f : (Nat → Nat → Int) → Nat → Nat → Int) (plane : List Int) (w h : Nat) : List Int :=
  (List.range (w * h)).map fun e =>
    f (planeBlock plane w (e / w / 8) (e % w / 8)) (e / w % 8) (e % w % 8)

/-- FdctPlane (R119). -/
def fdctPlane (pix : List Int) (w h : Nat) : List Int := mapBlocks fdctBlock pix w h

/-- IdctPlane (R120). -/
def idctPlane (co : List Int) (w h : Nat) : List Int := mapBlocks idctBlock co w h

/-- FdctPlane(PIXb[0 .. w·h-1], w, h) of a state. -/
def State.transformOf (s : State) (b : Bank) (w h : Nat) : List Int := fdctPlane (s.pixPlane b (w * h)) w h

/-- FDCT b (R121). -/
def execFdct (b : Bank) (s : State) : Result :=
  let w := s.width b
  let h := s.height b
  if dimsOK s.params w h then
    .next ((s.writeCoef b (s.transformOf b w h)).setErr .ok)
  else .next (raiseFault .dimInv s)

/-- IDCT b (R122). -/
def execIdct (b : Bank) (s : State) : Result :=
  let w := s.width b
  let h := s.height b
  if dimsOK s.params w h then
    .next ((s.writePix b (idctPlane (s.coefPlane b (w * h)) w h)).setErr .ok)
  else .next (raiseFault .dimInv s)

end Sys2Proof.Machine
end

