-- ==== Sys2Proof/Machine/Selector.lean ====
section
/-! DEFINITION. The Coefficient Selector: the function Select of 41_selector.md R140 and the command SEL (R142). -/

namespace Sys2Proof.Machine

/-- The positions Select looks at, in its order: row-major, the DC position skipped (R140). -/
def scanPositions : List (Nat × Nat) :=
  ((List.range 64).map fun n => (n / 8, n % 8)).filter fun p => decide (p ≠ (0, 0))

/-- One position of the scan: `>=`, so a later equal magnitude wins (R140). -/
def selectStep (F : Nat → Nat → Int) (best : Nat × (Nat × Nat)) (p : Nat × Nat) : Nat × (Nat × Nat) :=
  if best.1 ≤ (F p.1 p.2).natAbs then ((F p.1 p.2).natAbs, p) else best

/-- Select(F) (R140): starts at best = 0, pos = (0, 1); the magnitude is on unbounded integers. -/
def select (F : Nat → Nat → Int) : Nat × Nat := (scanPositions.foldl (selectStep F) (0, (0, 1))).2

/-- SEL b (R142). -/
def execSel (b : Bank) (s : State) : Result :=
  let w := s.width b
  let h := s.height b
  let y := s.blkY.toNat
  let x := s.blkX.toNat
  if dimsOK s.params w h then
    if h / 8 ≤ y ∨ w / 8 ≤ x then .next (raiseFault .blkRng s)
    else
      let p := select fun row col => s.coefAt b (blkIdx w y x row col)
      .next ((s.setSelection p.1 p.2 (s.coefWord b (blkIdx w y x p.1 p.2))).setErr .ok)
  else .next (raiseFault .dimInv s)

end Sys2Proof.Machine
end

