-- ==== Sys2Proof/Machine/Embedder.lean ====
section
/-! DEFINITION. The Embedder: Perturb (42_embedder.md R151) and the command EMBED (R150). -/

namespace Sys2Proof.Machine

/-- Perturb(c, m, ALPHA) (R151): bit 0 adds alpha, bit 1 subtracts it, saturating. -/
def perturb (c : Int) (m : Byte) (alpha : Int) : Int :=
  if m = 0x00 then sat64 (c + alpha) else sat64 (c - alpha)

/-- One visited block of EMBED's loop: the coefficient at the selected position is perturbed (R150). -/
def embedBlock (w : Nat) (alpha : Int) (m : Byte) (co : List Int) (blk : Nat × Nat) : List Int :=
  let p := select (planeBlock co w blk.1 blk.2)
  let idx := blkIdx w blk.1 blk.2 p.1 p.2
  co.set idx (perturb (co.getD idx 0) m alpha)

/-- EMBED's loop over the blocks in raster order: while bits remain, block by block; answers the perturbed
plane and the running bit counter (R150, R156). -/
def embedScan (w msgLen : Nat) (msg : Nat → Byte) (alpha : Int) :
    List (Nat × Nat) → List Int → Nat → List Int × Nat
  | [], co, cnt => (co, cnt)
  | blk :: rest, co, cnt =>
    if cnt < msgLen then
      embedScan w msgLen msg alpha rest (embedBlock w alpha (msg cnt) co blk) (cnt + 1)
    else embedScan w msgLen msg alpha rest co cnt

/-- The first `n` message bytes are each 0x00 or 0x01 (R150, 60_exceptions.md R209). -/
abbrev State.messageOK (s : State) (n : Nat) : Prop :=
  ∀ t ∈ List.range n, s.byteAt .msgIn t = 0x00 ∨ s.byteAt .msgIn t = 0x01

/-- EMBED's perturbed plane and bit count, from the plane of bank 0. -/
def State.embedded (s : State) (w h : Nat) : List Int × Nat :=
  embedScan w s.msgLen.toNat (s.byteAt .msgIn) s.alpha (rasterBlocks w h) (s.transformOf .zero w h) 0

/-- EMBED (R150). -/
def execEmbed (s : State) : Result :=
  let w := s.width .zero
  let h := s.height .zero
  if dimsOK s.params w h then
    if s.messageOK (min s.msgLen.toNat (capacity w h)) then
      let r := s.embedded w h
      .next (((((s.writeCoef .zero r.1).writePix .one (idctPlane r.1 w h)).setDims1 s.w0 s.h0).setBitCnt
        r.2).setErr .ok)
    else .next (raiseFault .msgFmt s)
  else .next (raiseFault .dimInv s)

end Sys2Proof.Machine
end

