-- ==== Sys2Proof/Machine/Extractor.lean ====
section
/-! DEFINITION. The Extractor: the commands XDIFF (43_extractor.md R165 to R169) and XSELF (R170). -/

namespace Sys2Proof.Machine

/-- What one block of XDIFF decodes: source above target is bit 1, below is bit 0, equal is no bit; the
position is selected in the SOURCE block only (R165). -/
def diffBit (w : Nat) (c0 c1 : List Int) (blk : Nat × Nat) : Option Byte :=
  let p := select (planeBlock c0 w blk.1 blk.2)
  let s := planeBlock c0 w blk.1 blk.2 p.1 p.2
  let t := planeBlock c1 w blk.1 blk.2 p.1 p.2
  if t < s then some 0x01 else if s < t then some 0x00 else none

/-- XDIFF's scan: the bits decoded from the blocks that are left, `cnt` being decoded already; it is left as
soon as cnt = limit, before the next block is looked at (R165). -/
def diffScan (w limit : Nat) (c0 c1 : List Int) : List (Nat × Nat) → Nat → List Byte
  | [], _ => []
  | blk :: rest, cnt =>
    if cnt = limit then []
    else
      match diffBit w c0 c1 blk with
      | some m => m :: diffScan w limit c0 c1 rest (cnt + 1)
      | none => diffScan w limit c0 c1 rest cnt

/-- XDIFF (R165). -/
def execXdiff (s : State) : Result :=
  if s.w0 ≠ s.w1 ∨ s.h0 ≠ s.h1 then .next (raiseFault .dimMis s)
  else
    let w := s.width .zero
    let h := s.height .zero
    if dimsOK s.params w h then
      let c0 := s.transformOf .zero w h
      let c1 := s.transformOf .one w h
      let bits := diffScan w s.diffLimit c0 c1 (rasterBlocks w h) 0
      .next (((((s.writeCoef .zero c0).writeCoef .one c1).storeBytes .msgOut 0 bits).setBitCnt
        bits.length).setErr (if bits.length = 0 ∧ 0 < s.diffLimit then .ident else .ok))
    else .next (raiseFault .dimInv s)

/-- What one block of XSELF decodes: the sign of the coefficient at (SELF_ROW, SELF_COL) (R170). -/
def selfBit (w : Nat) (c : List Int) (blk : Nat × Nat) : Byte :=
  if planeBlock c w blk.1 blk.2 Config.selfRow Config.selfCol < 0 then 0x01 else 0x00

/-- XSELF's scan, left as soon as cnt = MSGLEN (R170). -/
def selfScan (w msgLen : Nat) (c : List Int) : List (Nat × Nat) → Nat → List Byte
  | [], _ => []
  | blk :: rest, cnt =>
    if cnt = msgLen then [] else selfBit w c blk :: selfScan w msgLen c rest (cnt + 1)

/-- XSELF b (R170). -/
def execXself (b : Bank) (s : State) : Result :=
  let w := s.width b
  let h := s.height b
  if dimsOK s.params w h then
    let c := s.transformOf b w h
    let bits := selfScan w s.msgLen.toNat c (rasterBlocks w h) 0
    .next ((((s.writeCoef b c).storeBytes .msgOut 0 bits).setBitCnt bits.length).setErr .ok)
  else .next (raiseFault .dimInv s)

end Sys2Proof.Machine
end

