-- ==== Sys2Proof/Machine/Metadata.lean ====
section
/-! DEFINITION. The Metadata Codec: MPATCH (44_metadata.md R187), MDETECT (R188), MREAD (R189). -/

namespace Sys2Proof.Machine

/-- The four bytes of the header field, FILE[6] to FILE[9] (R185). -/
def State.headerBytes (s : State) : List Byte :=
  (List.range Config.headerSize).map fun k => s.byteAt .file (Config.headerOffset + k)

/-- HdrVal (R185): the header field as an unsigned little-endian integer. -/
def State.headerValue (s : State) : Nat := leValue s.headerBytes

/-- MPATCH (R187). -/
def execMpatch (s : State) : Result :=
  if s.fileOK then
    .next ((s.storeBytes .file Config.headerOffset (leBytes Config.headerSize s.hdrLen.toNat)).setErr .ok)
  else .next (raiseFault .fileRng s)

/-- MDETECT (R188): DET is 0 when all four bytes are 0, else 1. -/
def execMdetect (s : State) : Result :=
  if s.fileOK then
    .next ((s.setDet (!(s.headerBytes.all fun b => b == 0))).setErr .ok)
  else .next (raiseFault .fileRng s)

/-- MREAD (R189). -/
def execMread (s : State) : Result :=
  if s.fileOK then .next ((s.setHdrLen s.headerValue).setErr .ok)
  else .next (raiseFault .fileRng s)

end Sys2Proof.Machine
end

