-- ==== Sys2Proof/Machine/System.lean ====
section
/-! DEFINITION. The system commands NOP (45_system.md R196) and SRST (R197). -/

namespace Sys2Proof.Machine

/-- NOP (R196): clears the error code and nothing else. -/
def execNop (s : State) : Result := .next (s.setErr .ok)

/-- SRST (R197): every register to its reset value; the memories stay. -/
def execSrst (s : State) : Result := .next s.resetRegisters

end Sys2Proof.Machine
end

