-- ==== Sys2Proof/Machine/Dispatch.lean ====
section
/-! DEFINITION. One arm per command: the meaning of each is one definition of its own. -/

namespace Sys2Proof.Machine

def exec (i : Instr) (s : State) : Host.Outcome State Fault Refusal :=
  match i with
  | .nop => Sys2Proof.Machine.execNop s
  | .srst => Sys2Proof.Machine.execSrst s
  | .fdct b => Sys2Proof.Machine.execFdct b s
  | .idct b => Sys2Proof.Machine.execIdct b s
  | .sel b => Sys2Proof.Machine.execSel b s
  | .embed => Sys2Proof.Machine.execEmbed s
  | .xdiff => Sys2Proof.Machine.execXdiff s
  | .xself b => Sys2Proof.Machine.execXself b s
  | .mpatch => Sys2Proof.Machine.execMpatch s
  | .mdetect => Sys2Proof.Machine.execMdetect s
  | .mread => Sys2Proof.Machine.execMread s

end Sys2Proof.Machine
end

