-- ==== Sys2Proof/Machine/Step.lean ====
section
/-! DEFINITION. One step: the next event of the outside world, in the order of its stream (20_memory.md R78);
a write of CMD runs its command whole inside that one access (70_reset_and_hazards.md R236). -/

namespace Sys2Proof.Machine

/-- Execute a command word (10_state.md R24): an illegal one raises ILLCMD (30_encoding.md R93). -/
def runCommand (c : Word) (s : State) : Host.Outcome State Fault Refusal :=
  match decode c with
  | .ok i => exec i s
  | .error _ => .next (raiseFault .illCmd s)

/-- One step. With no event pending the engine does nothing (R230; log 1). -/
def step (s : State) : Host.Outcome State Fault Refusal :=
  match s.bus with
  | [] => .next s
  | e :: rest =>
    match busEffect e (s.setBus rest) with
    | .done s' => .next s'
    | .command c s' => runCommand c s'

/-- The state whose next step runs the command with bits `w`: the host's next access writes that word to CMD
(30_encoding.md R90). -/
def State.withFetchWord (s : State) (nbits w : Nat) : State :=
  s.setBus (.write 0 4 (BitVec.ofNat 32 (w % 2 ^ nbits)) :: s.bus)

end Sys2Proof.Machine
end

