-- ==== Sys2Proof/Safety.lean ====
section
/-! DEFINITION. What the statements call safe: the invariant of the state, and what a command leaves unchanged,
seen through the host's view of a register (`readReg`) and the read of one byte (`State.byteAt`). -/

namespace Sys2Proof.Machine

/-- The invariant: R13's constraints on the parameters; every memory in its canonical form and inside its
size (20_memory.md R61); BITCNT in its range 0 to MAXMSG (10_state.md R30). -/
structure State.Inv (s : State) : Prop where
  params : s.params.wellFormed = true
  canonical : ∀ id, (s.mem id).wf
  bounded : ∀ id, (s.mem id).within (memSize s.params id)
  count : s.bitCnt.toNat ≤ s.params.maxMsg

/-- `t` differs from `s` at most in the registers `regs` (as the host reads them) and in the bytes `P`; the
model's own fields are the same. -/
structure State.UnchangedOutside (regs : List Reg) (P : MemId → Nat → Prop) (s t : State) : Prop where
  registers : ∀ r, r ∉ regs → readReg t r = readReg s r
  bytes : ∀ id k, ¬ P id k → t.byteAt id k = s.byteAt id k
  params : t.params = s.params
  resets : t.resets = s.resets
  bus : t.bus = s.bus
  reply : t.reply = s.reply

/-- No byte. -/
def noByte : MemId → Nat → Prop := fun _ _ => False

/-- The registers a command may write, the column "writes" of the table of 10_state.md R45. -/
def writtenRegs : Instr → List Reg
  | .nop => [.status]
  | .srst => [.status, .ctrl, .w0, .h0, .w1, .h1, .alphaLo, .alphaHi, .msgLen, .bitCnt, .blkY, .blkX,
      .selPos, .selValLo, .selValHi, .fileLen, .hdrLen]
  | .fdct _ => [.status]
  | .idct _ => [.status]
  | .sel _ => [.selPos, .selValLo, .selValHi, .status]
  | .embed => [.w1, .h1, .bitCnt, .status]
  | .xdiff => [.bitCnt, .status]
  | .xself _ => [.bitCnt, .status]
  | .mpatch => [.status]
  | .mdetect => [.status]
  | .mread => [.hdrLen, .status]

/-- The bytes a command may write, by the same table: the plane elements 0 to w·h - 1 of the bank, the
elements of MSGOUT below the final BITCNT (of `t`), FILE[6..9]. A coefficient is 8 bytes. -/
def writtenBytes (i : Instr) (s t : State) (id : MemId) (k : Nat) : Prop :=
  match i with
  | .nop => False
  | .srst => False
  | .fdct b => id = coefId b ∧ k < 8 * (s.width b * s.height b)
  | .idct b => id = pixId b ∧ k < s.width b * s.height b
  | .sel _ => False
  | .embed => (id = .coef0 ∧ k < 8 * (s.width .zero * s.height .zero)) ∨
      (id = .pix1 ∧ k < s.width .zero * s.height .zero)
  | .xdiff => ((id = .coef0 ∨ id = .coef1) ∧ k < 8 * (s.width .zero * s.height .zero)) ∨
      (id = .msgOut ∧ k < t.bitCnt.toNat)
  | .xself b => (id = coefId b ∧ k < 8 * (s.width b * s.height b)) ∨ (id = .msgOut ∧ k < t.bitCnt.toNat)
  | .mpatch => id = .file ∧ 6 ≤ k ∧ k ≤ 9
  | .mdetect => False
  | .mread => False

/-- The values STATUS.ERR may take after a command (60_exceptions.md R202). -/
def possibleCodes : Instr → List ErrCode
  | .nop => [.ok]
  | .srst => [.ok]
  | .fdct _ => [.ok, .dimInv]
  | .idct _ => [.ok, .dimInv]
  | .sel _ => [.ok, .dimInv, .blkRng]
  | .embed => [.ok, .dimInv, .msgFmt]
  | .xdiff => [.ok, .dimMis, .dimInv, .ident]
  | .xself _ => [.ok, .dimInv]
  | .mpatch => [.ok, .fileRng]
  | .mdetect => [.ok, .fileRng]
  | .mread => [.ok, .fileRng]

/-- The pixels of block (y, x) of PIXb under width `w`, as integers (20_memory.md R73). -/
def State.pixelBlock (s : State) (b : Bank) (w y x i j : Nat) : Int :=
  ((s.byteAt (pixId b) (blkIdx w y x i j)).toNat : Int)

/-- The coefficients of block (y, x) of COEFb under width `w` (R73). -/
def State.coefBlock (s : State) (b : Bank) (w y x k l : Nat) : Int := s.coefAt b (blkIdx w y x k l)

/-- The condition of 20_memory.md R66 for an access of `n` bytes at `addr` to be admitted, in its own words:
r = addr[31:28], off = addr[27:0]. -/
abbrev admitted (p : Config.Params) (addr : Word) (n : Nat) : Prop :=
  (addr.toNat / 2 ^ 28 = 0 ∧ n = 4 ∧ addr.toNat % 2 ^ 28 % 4 = 0 ∧ addr.toNat % 2 ^ 28 ≤ 0x48) ∨
  ((addr.toNat / 2 ^ 28 = 1 ∨ addr.toNat / 2 ^ 28 = 2) ∧ n = 1 ∧ addr.toNat % 2 ^ 28 < p.maxPix) ∨
  ((addr.toNat / 2 ^ 28 = 3 ∨ addr.toNat / 2 ^ 28 = 4) ∧ n = 4 ∧ addr.toNat % 2 ^ 28 % 4 = 0 ∧
    addr.toNat % 2 ^ 28 < 8 * p.maxPix) ∨
  ((addr.toNat / 2 ^ 28 = 5 ∨ addr.toNat / 2 ^ 28 = 6) ∧ n = 1 ∧ addr.toNat % 2 ^ 28 < p.maxMsg) ∨
  (addr.toNat / 2 ^ 28 = 7 ∧ n = 1 ∧ addr.toNat % 2 ^ 28 < p.maxFile)

/-- The registers a host write changes, other than CTRL (the access column RW of 10_state.md R23). -/
def plainRegs : List Reg :=
  [.w0, .h0, .w1, .h1, .alphaLo, .alphaHi, .msgLen, .blkY, .blkX, .fileLen, .hdrLen]

/-- The registers a host write leaves alone (access RO, R23, R36). -/
def readOnlyRegs : List Reg := [.status, .bitCnt, .selPos, .selValLo, .selValHi, .id]

/-- The five byte memories (20_memory.md R63). -/
def byteMemories : List MemId := [.pix0, .pix1, .msgIn, .msgOut, .file]

end Sys2Proof.Machine
end

