-- ==== Sys2Proof/Certificates/Slice0/Obligations.lean ====
section
/-! DEFINITION. The statements for the provers. Each docstring names the rule of spec/ it formalises. A frame is
said with `State.UnchangedOutside regs P s t`: every register outside `regs` reads as before, every byte outside
`P` reads as before. -/

open Sys2Proof Sys2Proof.Machine

/-! ### Encoding (30_encoding.md) -/

/-- Decoding an encoded well-formed command gives it back, and a command has no other word. -/
def Obligations.DecodeAndEncodeAgree : Prop :=
  ∀ i : Instr, i.wellFormed = true → decode (encode i) = .ok i ∧ ∀ c : Word, decode c = .ok i → c = encode i

/-- R92: a word is of a row's command exactly when (c AND mask) = match, and the eleven rows exclude each other. -/
def Obligations.DecodeFollowsOpcodeMap : Prop :=
  opcodeMap.length = 11 ∧
  (∀ c : Word, ∀ row ∈ opcodeMap,
    (c &&& row.mask = row.value ↔ ∃ i, decode c = .ok i ∧ i.mnemonic = row.mnemonic)) ∧
  (∀ c : Word, ∀ row₁ ∈ opcodeMap, ∀ row₂ ∈ opcodeMap,
    c &&& row₁.mask = row₁.value → c &&& row₂.mask = row₂.value → row₁ = row₂)

/-- R93: which words are illegal, and that writing one to CMD sets STATUS.ERR to ILLCMD and changes nothing else. -/
def Obligations.IllegalWordsRaiseIllCmd : Prop :=
  ∀ c : Word,
    ((∃ e, decode c = .error e) ↔
      (c.extractLsb' 9 23 ≠ 0 ∨
        c.extractLsb' 0 8 ∉ ([0x00, 0x01, 0x10, 0x11, 0x12, 0x20, 0x30, 0x31, 0x40, 0x41, 0x42] : List Byte) ∨
        (c.extractLsb' 0 8 ∈ ([0x00, 0x01, 0x20, 0x30, 0x40, 0x41, 0x42] : List Byte) ∧ c.getLsbD 8 = true))) ∧
    ∀ (e : DecodeError) (s : State) (rest : List BusEvent),
      decode c = .error e → s.bus = .write 0 4 c :: rest →
        step s = .next { s with bus := rest, reply := some .written, err := .illCmd }

/-- The words 30_encoding.md and 95_test_vectors.md V26 write out decode to the commands they stand for. -/
def Obligations.WrittenWordsDecode : Prop :=
  decode 0x00000000 = .ok .nop ∧ decode 0x00000001 = .ok .srst ∧ decode 0x00000110 = .ok (.fdct .one) ∧
  decode 0x00000111 = .ok (.idct .one) ∧ decode 0x00000012 = .ok (.sel .zero) ∧ decode 0x00000020 = .ok .embed ∧
  decode 0x00000030 = .ok .xdiff ∧ decode 0x00000131 = .ok (.xself .one) ∧ decode 0x00000040 = .ok .mpatch ∧
  decode 0x00000041 = .ok .mdetect ∧ decode 0x00000042 = .ok .mread ∧
  decode 0x00000120 = .error .strayBank ∧ decode 0x00000210 = .error .reservedBits

/-! ### The step and the bus (20_memory.md, 70_reset_and_hazards.md) -/

/-- R24, R67, R236: a 4-byte write of a legal word to address 0 runs exactly that command, on the state whose bus
stream has moved on and whose reply is that the write is done. -/
def Obligations.StepRunsDecodedCommand : Prop :=
  ∀ (s : State) (c : Word) (rest : List BusEvent) (i : Instr),
    s.bus = .write 0 4 c :: rest → decode c = .ok i →
      step s = exec i { s with bus := rest, reply := some .written }

/-- The state the host builds to run one word runs that word's command in its next step. -/
def Obligations.FetchWordRuns : Prop :=
  ∀ (s : State) (w : Nat) (i : Instr), decodeTableWord 32 w = some i →
    step (s.withFetchWord 32 w) = exec i { s with reply := some .written }

/-- R66: an admitted read returns the register, the byte, or the half of the coefficient that the map names, and
changes no state; a read that is not admitted returns no data. -/
def Obligations.HostReadFollowsTheMap : Prop :=
  ∀ (s : State) (addr : Word) (n : Nat) (rest : List BusEvent), s.bus = .read addr n :: rest →
    (∀ r : Reg, addr.toNat = 4 * regNumber r → n = 4 →
      step s = .next { s with bus := rest, reply := some (.data (readReg s r)) }) ∧
    (∀ id ∈ byteMemories, ∀ off, addr.toNat = memBase id + off → n = 1 → off < memSize s.params id →
      off < 2 ^ 28 →
      step s = .next { s with bus := rest, reply := some (.data ((s.byteAt id off).setWidth 32)) }) ∧
    (∀ b off, addr.toNat = memBase (coefId b) + off → n = 4 → off % 4 = 0 → off < 8 * s.params.maxPix →
      off < 2 ^ 28 →
      step s = .next { s with
        bus := rest
        reply := some (.data ((s.coefWord b (off / 8)).extractLsb' (if off % 8 = 0 then 0 else 32) 32)) }) ∧
    (¬ admitted s.params addr n → step s = .next { s with bus := rest, reply := some .busError })

/-- R67: what an admitted write stores, and that it changes nothing else; at offset 0 it executes the command v; a
write that is not admitted is a BusError. The data satisfy 0 ≤ v < 2^(8n). -/
def Obligations.HostWriteFollowsTheMap : Prop :=
  ∀ (s : State) (addr : Word) (n : Nat) (v : Word) (rest : List BusEvent),
    s.bus = .write addr n v :: rest → v.toNat < 2 ^ (8 * n) →
    (addr = 0 → n = 4 → step s = runCommand v { s with bus := rest, reply := some .written }) ∧
    (¬ admitted s.params addr n → step s = .next { s with bus := rest, reply := some .busError }) ∧
    (∀ r ∈ plainRegs, addr.toNat = 4 * regNumber r → n = 4 →
      ∃ t, step s = .next t ∧ readReg t r = v ∧ t.reply = some .written ∧
        State.UnchangedOutside [r] noByte { s with bus := rest, reply := some .written } t) ∧
    (addr.toNat = 4 * regNumber .ctrl → n = 4 →
      ∃ t, step s = .next t ∧ readReg t .ctrl = v &&& 1 ∧ t.reply = some .written ∧
        State.UnchangedOutside [.ctrl] noByte { s with bus := rest, reply := some .written } t) ∧
    (∀ r ∈ readOnlyRegs, addr.toNat = 4 * regNumber r → n = 4 →
      step s = .next { s with bus := rest, reply := some .written }) ∧
    (∀ id ∈ byteMemories, ∀ off, addr.toNat = memBase id + off → n = 1 → off < memSize s.params id →
      off < 2 ^ 28 →
      ∃ t, step s = .next t ∧ (t.byteAt id off).toNat = v.toNat ∧ t.reply = some .written ∧
        State.UnchangedOutside [] (fun id' k => id' = id ∧ k = off)
          { s with bus := rest, reply := some .written } t) ∧
    (∀ b off, addr.toNat = memBase (coefId b) + off → n = 4 → off % 4 = 0 → off < 8 * s.params.maxPix →
      off < 2 ^ 28 →
      ∃ t, step s = .next t ∧
        t.coefWord b (off / 8) = (if off % 8 = 0 then (s.coefWord b (off / 8)).extractLsb' 32 32 ++ v
          else v ++ (s.coefWord b (off / 8)).extractLsb' 0 32) ∧ t.reply = some .written ∧
        State.UnchangedOutside [] (fun id' k => id' = coefId b ∧ off ≤ k ∧ k < off + 4)
          { s with bus := rest, reply := some .written } t)

/-- R68: an access is refused exactly when it is not admitted; refused, it changes no engine state. -/
def Obligations.RefusedAccessChangesNothing : Prop :=
  ∀ (s : State) (addr : Word) (n : Nat) (e : BusEvent) (rest : List BusEvent),
    (e = .read addr n ∨ ∃ v, e = .write addr n v) → s.bus = e :: rest →
      ((¬ admitted s.params addr n → step s = .next { s with bus := rest, reply := some .busError }) ∧
        (admitted s.params addr n → ∃ t, step s = .next t ∧ t.reply ≠ some .busError))

/-- R36: reserved bits read 0 and store nothing (of CTRL, only bit 0 of the written word matters); a host write to a
read-only register is accepted by the bus and changes nothing; no read has a side effect. -/
def Obligations.ReservedBitsAndReadOnlyRegisters : Prop :=
  (∀ s : State, (readReg s .status).extractLsb' 9 23 = 0 ∧ (readReg s .ctrl).extractLsb' 1 31 = 0 ∧
    (readReg s .selPos).extractLsb' 6 26 = 0) ∧
  (∀ (s : State) (v w : Word) (rest : List BusEvent), v.getLsbD 0 = w.getLsbD 0 →
    step { s with bus := .write 8 4 v :: rest } = step { s with bus := .write 8 4 w :: rest }) ∧
  (∀ (s : State) (r : Reg) (v : Word) (rest : List BusEvent), r ∈ readOnlyRegs →
    s.bus = .write (BitVec.ofNat 32 (4 * regNumber r)) 4 v :: rest →
      step s = .next { s with bus := rest, reply := some .written }) ∧
  (∀ (s : State) (addr : Word) (n : Nat) (rest : List BusEvent), s.bus = .read addr n :: rest →
    ∃ a, step s = .next { s with bus := rest, reply := some a })

/-- R230: the hardware reset puts every register at its reset value and leaves in every memory element a value the
spec does not fix. That these values are the model's free values of the new reset count is the model's choice
(notes/assumptions 4 and 5). -/
def Obligations.HardResetForgetsEverything : Prop :=
  ∀ (s : State) (rest : List BusEvent), s.bus = .reset :: rest →
    ∃ t, step s = .next t ∧ (∀ r, readReg t r = if r = .id then 0x00081E20 else 0) ∧
      (∀ id k, t.byteAt id k = Config.powerUp (s.resets + 1) (memBase id + k)) ∧
      t.params = s.params ∧ t.bus = rest ∧ t.resets = s.resets + 1 ∧ t.reply = none

/-- R44, R230: what the registers read right after reset. -/
def Obligations.ResetRegisterValues : Prop :=
  ∀ r, readReg State.reset r = if r = .id then 0x00081E20 else 0

/-! ### System commands (45_system.md) -/

/-- R196: NOP sets STATUS.ERR to OK and keeps STATUS.DET and everything else. -/
def Obligations.NopClearsErr : Prop :=
  decode 0x00000000 = .ok .nop ∧ ∀ s : State, ∃ t, exec .nop s = .next t ∧ t.err = .ok ∧ t.det = s.det ∧
    State.UnchangedOutside [.status] noByte s t

/-- R197: SRST puts every register to its reset value, keeps all seven memories, and is idempotent. -/
def Obligations.SrstResetsRegisters : Prop :=
  decode 0x00000001 = .ok .srst ∧ ∀ s : State, ∃ t, exec .srst s = .next t ∧ (∀ r, readReg t r = readReg State.reset r) ∧
    (∀ r, r ≠ .id → readReg t r = 0) ∧ (∀ id, t.mem id = s.mem id) ∧
    State.UnchangedOutside (writtenRegs .srst) noByte s t ∧ exec .srst t = .next t

/-! ### Metadata codec (44_metadata.md) -/

/-- R187: MPATCH writes HDRLEN as four little-endian bytes at FILE[6..9] and nothing else; without FileOK it faults. -/
def Obligations.MpatchWritesHeader : Prop :=
  decode 0x00000040 = .ok .mpatch ∧ ∀ s : State,
    ((10 ≤ s.fileLen.toNat ∧ s.fileLen.toNat ≤ s.params.maxFile) → ∃ t, exec .mpatch s = .next t ∧
      t.byteAt .file 6 = s.hdrLen.extractLsb' 0 8 ∧ t.byteAt .file 7 = s.hdrLen.extractLsb' 8 8 ∧
      t.byteAt .file 8 = s.hdrLen.extractLsb' 16 8 ∧ t.byteAt .file 9 = s.hdrLen.extractLsb' 24 8 ∧
      t.err = .ok ∧ t.det = s.det ∧
      State.UnchangedOutside [.status] (fun id k => id = .file ∧ 6 ≤ k ∧ k ≤ 9) s t) ∧
    (¬ (10 ≤ s.fileLen.toNat ∧ s.fileLen.toNat ≤ s.params.maxFile) →
      exec .mpatch s = .next (s.setErr .fileRng))

/-- R188: MDETECT sets DET to 0 when the four header bytes are 0 and to 1 otherwise, ERR to OK either way. -/
def Obligations.MdetectReportsHeader : Prop :=
  decode 0x00000041 = .ok .mdetect ∧ ∀ s : State,
    ((10 ≤ s.fileLen.toNat ∧ s.fileLen.toNat ≤ s.params.maxFile) → ∃ t, exec .mdetect s = .next t ∧
      (t.det = false ↔ s.byteAt .file 6 = 0 ∧ s.byteAt .file 7 = 0 ∧ s.byteAt .file 8 = 0 ∧
        s.byteAt .file 9 = 0) ∧
      t.err = .ok ∧ State.UnchangedOutside [.status] noByte s t) ∧
    (¬ (10 ≤ s.fileLen.toNat ∧ s.fileLen.toNat ≤ s.params.maxFile) →
      exec .mdetect s = .next (s.setErr .fileRng))

/-- R189: MREAD puts FILE[6] + 2^8 FILE[7] + 2^16 FILE[8] + 2^24 FILE[9] into HDRLEN. -/
def Obligations.MreadReadsHeader : Prop :=
  decode 0x00000042 = .ok .mread ∧ ∀ s : State,
    ((10 ≤ s.fileLen.toNat ∧ s.fileLen.toNat ≤ s.params.maxFile) → ∃ t, exec .mread s = .next t ∧
      t.hdrLen.toNat = (s.byteAt .file 6).toNat + 2 ^ 8 * (s.byteAt .file 7).toNat +
        2 ^ 16 * (s.byteAt .file 8).toNat + 2 ^ 24 * (s.byteAt .file 9).toNat ∧
      t.err = .ok ∧ t.det = s.det ∧ State.UnchangedOutside [.hdrLen, .status] noByte s t) ∧
    (¬ (10 ≤ s.fileLen.toNat ∧ s.fileLen.toNat ≤ s.params.maxFile) →
      exec .mread s = .next (s.setErr .fileRng))

/-- R190: MPATCH then MREAD gives the length back, and MDETECT after MPATCH reports 1 exactly when it is not 0. -/
def Obligations.HeaderRoundTrip : Prop :=
  ∀ s : State, 10 ≤ s.fileLen.toNat → s.fileLen.toNat ≤ s.params.maxFile →
    ∃ t, exec .mpatch s = .next t ∧
      (∀ n : Word, ∃ u, exec .mread { t with hdrLen := n } = .next u ∧ u.hdrLen = s.hdrLen) ∧
      (∃ v, exec .mdetect t = .next v ∧ (v.det = true ↔ s.hdrLen ≠ 0))

/-! ### Fixed-point transform (40_block_transform.md) -/

/-- R114: the basis table written out, and what the spec infers from it (its zero row sums, its mirror symmetry). -/
def Obligations.BasisTable : Prop :=
  (∀ k i, basis k i = cosTable ((2 * i + 1) * k)) ∧
  ((List.range 8).map fun k => (List.range 8).map fun i => basis k i) =
    [ [1073741824, 1073741824, 1073741824, 1073741824, 1073741824, 1073741824, 1073741824, 1073741824],
      [1053110176, 892783698, 596538995, 209476638, -209476638, -596538995, -892783698, -1053110176],
      [992008094, 410903207, -410903207, -992008094, -992008094, -410903207, 410903207, 992008094],
      [892783698, -209476638, -1053110176, -596538995, 596538995, 1053110176, 209476638, -892783698],
      [759250125, -759250125, -759250125, 759250125, 759250125, -759250125, -759250125, 759250125],
      [596538995, -1053110176, 209476638, 892783698, -892783698, -209476638, 1053110176, -596538995],
      [410903207, -992008094, 992008094, -410903207, -410903207, 992008094, -992008094, 410903207],
      [209476638, -596538995, 892783698, -1053110176, 1053110176, -892783698, 596538995, -209476638] ] ∧
  (∀ k ∈ List.range 8, k ≠ 0 → (∑ i ∈ Finset.range 8, basis k i) = 0) ∧
  (∀ k ∈ List.range 8, ∀ i ∈ List.range 8, basis k (7 - i) = (-1) ^ k * basis k i)

/-- R117: each coefficient is the exact double sum times the weight, rounded half up once to 32 fraction bits; and
the equivalent forms that the rule infers from it. -/
def Obligations.ForwardBlockIsRoundedSum : Prop :=
  ∀ P : Nat → Nat → Int,
    (∀ k < 8, ∀ l < 8, fdctBlock P k l =
      ((∑ i ∈ Finset.range 8, ∑ j ∈ Finset.range 8, P i j * basis k i * basis l j) * weight k l + 2 ^ 60) /
        2 ^ 61) ∧
    (fdctBlock P 0 0 =
      ((∑ i ∈ Finset.range 8, ∑ j ∈ Finset.range 8, P i j * basis 0 i * basis 0 j) + 2 ^ 30) / 2 ^ 31) ∧
    (fdctBlock P 0 0 = 2 ^ 29 * ∑ i ∈ Finset.range 8, ∑ j ∈ Finset.range 8, P i j) ∧
    (∀ k < 8, ∀ l < 8, k ≠ 0 → l ≠ 0 → fdctBlock P k l =
      ((∑ i ∈ Finset.range 8, ∑ j ∈ Finset.range 8, P i j * basis k i * basis l j) + 2 ^ 29) / 2 ^ 30)

/-- R118: each pixel is the exact sum, truncated toward zero to an integer and saturated to 0..255; and, the rule's
own inference, truncating toward minus infinity gives the same pixel. -/
def Obligations.InverseBlockIsTruncatedSum : Prop :=
  ∀ (F : Nat → Nat → Int) (i j : Nat), i < 8 → j < 8 →
    let S : Int := ∑ k ∈ Finset.range 8, ∑ l ∈ Finset.range 8, F k l * weight k l * basis k i * basis l j
    idctBlock F i j = max 0 (min 255 (if 0 ≤ S then S / 2 ^ 125 else -((-S) / 2 ^ 125))) ∧
    idctBlock F i j = max 0 (min 255 (S / 2 ^ 125)) ∧ 0 ≤ idctBlock F i j ∧ idctBlock F i j ≤ 255

/-- R124: the ranges of the sums and of the coefficients of a block of pixels. -/
def Obligations.TransformRanges : Prop :=
  ∀ P : Nat → Nat → Int, (∀ i < 8, ∀ j < 8, 0 ≤ P i j ∧ P i j ≤ 255) →
    (0 ≤ fdctBlock P 0 0 ∧ fdctBlock P 0 0 ≤ 8761733283840) ∧
    (∀ k < 8, ∀ l < 8, (k, l) ≠ (0, 0) →
      -4380866641989 ≤ fdctBlock P k l ∧ fdctBlock P k l ≤ 4380866641989) ∧
    (∀ k < 8, ∀ l < 8, -2 ^ 74 < fdctSum P k l ∧ fdctSum P k l < 2 ^ 74 ∧
      -2 ^ 105 < fdctSum P k l * weight k l ∧ fdctSum P k l * weight k l < 2 ^ 105)

/-- R125: a constant block transforms to its DC term alone, exactly; a DC-only block of a whole pixel value inverts
exactly; so a constant block comes back exactly. -/
def Obligations.ConstantBlockExact : Prop :=
  (∀ (P : Nat → Nat → Int) (v : Int), (∀ i < 8, ∀ j < 8, P i j = v) →
    fdctBlock P 0 0 = v * 2 ^ 35 ∧ ∀ k < 8, ∀ l < 8, (k, l) ≠ (0, 0) → fdctBlock P k l = 0) ∧
  (∀ (F : Nat → Nat → Int) (d : Int), 0 ≤ d → d ≤ 255 → F 0 0 = d * 2 ^ 35 →
    (∀ k < 8, ∀ l < 8, (k, l) ≠ (0, 0) → F k l = 0) → ∀ i < 8, ∀ j < 8, idctBlock F i j = d) ∧
  (∀ (P : Nat → Nat → Int) (v : Int), 0 ≤ v → v ≤ 255 → (∀ i < 8, ∀ j < 8, P i j = v) →
    ∀ i < 8, ∀ j < 8, idctBlock (fdctBlock P) i j = v)

/-- R127: transforming a block of pixels and inverting it gives each pixel back, or one lower (a 0 stays 0). -/
def Obligations.RoundTripWithinOne : Prop :=
  ∀ P : Nat → Nat → Int, (∀ i < 8, ∀ j < 8, 0 ≤ P i j ∧ P i j ≤ 255) → ∀ i < 8, ∀ j < 8,
    (1 ≤ P i j → idctBlock (fdctBlock P) i j = P i j - 1 ∨ idctBlock (fdctBlock P) i j = P i j) ∧
    (P i j = 0 → idctBlock (fdctBlock P) i j = 0)

/-- R126, against the real formula of R110: the coefficient word over 2^32 is within 6.0e-7 of the real DCT. -/
def Obligations.ForwardAccuracy : Prop :=
  ∀ P : Nat → Nat → Int, (∀ i < 8, ∀ j < 8, 0 ≤ P i j ∧ P i j ≤ 255) → ∀ k < 8, ∀ l < 8,
    |(fdctBlock P k l : ℝ) / 2 ^ 32 -
      Real.sqrt (if k = 0 then 1 / 8 else 2 / 8) * Real.sqrt (if l = 0 then 1 / 8 else 2 / 8) *
        ∑ i ∈ Finset.range 8, ∑ j ∈ Finset.range 8, (P i j : ℝ) *
          Real.cos ((2 * i + 1) * Real.pi * k / 16) * Real.cos ((2 * j + 1) * Real.pi * l / 16)| < 6 / 10 ^ 7

/-- R121: FDCT b writes the transform of every block of PIXb to COEFb, and nothing else; when DimsOK fails it faults
DIMINV. -/
def Obligations.FdctTransformsPlane : Prop :=
  decode 0x00000010 = .ok (.fdct .zero) ∧ decode 0x00000110 = .ok (.fdct .one) ∧ ∀ (b : Bank) (s : State),
    (dimsOK s.params (s.width b) (s.height b) → ∃ t, exec (.fdct b) s = .next t ∧
      (∀ y < s.height b / 8, ∀ x < s.width b / 8, ∀ k < 8, ∀ l < 8,
        t.coefBlock b (s.width b) y x k l = fdctBlock (s.pixelBlock b (s.width b) y x) k l) ∧
      t.err = .ok ∧ t.det = s.det ∧
      State.UnchangedOutside [.status] (fun id n => id = coefId b ∧ n < 8 * (s.width b * s.height b)) s t) ∧
    (¬ dimsOK s.params (s.width b) (s.height b) → exec (.fdct b) s = .next (s.setErr .dimInv))

/-- R122: IDCT b writes the inverse of every block of COEFb to PIXb, and nothing else; when DimsOK fails it faults
DIMINV. -/
def Obligations.IdctReconstructsPlane : Prop :=
  decode 0x00000011 = .ok (.idct .zero) ∧ decode 0x00000111 = .ok (.idct .one) ∧ ∀ (b : Bank) (s : State),
    (dimsOK s.params (s.width b) (s.height b) → ∃ t, exec (.idct b) s = .next t ∧
      (∀ y < s.height b / 8, ∀ x < s.width b / 8, ∀ i < 8, ∀ j < 8,
        t.pixelBlock b (s.width b) y x i j = idctBlock (s.coefBlock b (s.width b) y x) i j) ∧
      t.err = .ok ∧ t.det = s.det ∧
      State.UnchangedOutside [.status] (fun id n => id = pixId b ∧ n < s.width b * s.height b) s t) ∧
    (¬ dimsOK s.params (s.width b) (s.height b) → exec (.idct b) s = .next (s.setErr .dimInv))

/-- R207: a plane command whose dimensions are not multiples of 8, or exceed MAXPIX, faults DIMINV and changes
nothing else. -/
def Obligations.BadDimensionsFault : Prop :=
  ∀ (b : Bank) (s : State),
    ¬ (s.width b % 8 = 0 ∧ s.height b % 8 = 0 ∧ s.width b * s.height b ≤ s.params.maxPix) →
      (∀ i ∈ ([.fdct b, .idct b, .sel b, .xself b] : List Instr), exec i s = .next (s.setErr .dimInv)) ∧
      (b = .zero → exec .embed s = .next (s.setErr .dimInv)) ∧
      (s.w0 = s.w1 → s.h0 = s.h1 → exec .xdiff s = .next (s.setErr .dimInv))

/-! ### Selector (41_selector.md) -/

/-- R141: the selected position is an AC position of largest magnitude, the last one in row-major order; with its
consequences (a), (b), (c). -/
def Obligations.SelectIsLastMaximum : Prop :=
  (∀ F : Nat → Nat → Int, ∃ r c, select F = (r, c) ∧ r < 8 ∧ c < 8 ∧ (r, c) ≠ (0, 0) ∧
    ∀ r' < 8, ∀ c' < 8, (r', c') ≠ (0, 0) →
      (F r' c').natAbs ≤ (F r c).natAbs ∧ ((F r' c').natAbs = (F r c).natAbs → 8 * r' + c' ≤ 8 * r + c)) ∧
  (∀ F : Nat → Nat → Int, (∀ r < 8, ∀ c < 8, (r, c) ≠ (0, 0) → F r c = 0) → select F = (7, 7)) ∧
  (∀ F G : Nat → Nat → Int,
    (∀ r < 8, ∀ c < 8, (r, c) ≠ (0, 0) → (F r c).natAbs = (G r c).natAbs) → select F = select G)

/-- R142: SEL b reports the selected position and its word, changes nothing else, and never reports (0, 0); it faults
DIMINV when DimsOK fails, else BLKRNG outside the block grid. -/
def Obligations.SelReportsSelection : Prop :=
  decode 0x00000012 = .ok (.sel .zero) ∧ decode 0x00000112 = .ok (.sel .one) ∧ ∀ (b : Bank) (s : State),
    (¬ dimsOK s.params (s.width b) (s.height b) → exec (.sel b) s = .next (s.setErr .dimInv)) ∧
    (dimsOK s.params (s.width b) (s.height b) → s.blkY.toNat < s.height b / 8 → s.blkX.toNat < s.width b / 8 →
      ∃ t r c, exec (.sel b) s = .next t ∧
        (r, c) = select (s.coefBlock b (s.width b) s.blkY.toNat s.blkX.toNat) ∧
        (readReg t .selPos).toNat = 8 * r + c ∧ readReg t .selPos ≠ 0 ∧
        t.selValHi ++ t.selValLo = s.coefWord b (blkIdx (s.width b) s.blkY.toNat s.blkX.toNat r c) ∧
        t.err = .ok ∧ t.det = s.det ∧
        State.UnchangedOutside [.selPos, .selValLo, .selValHi, .status] noByte s t) ∧
    (dimsOK s.params (s.width b) (s.height b) → s.height b / 8 ≤ s.blkY.toNat ∨ s.width b / 8 ≤ s.blkX.toNat →
      exec (.sel b) s = .next (s.setErr .blkRng))

/-! ### Embedder (42_embedder.md) -/

/-- R151: bit 0 adds alpha, bit 1 subtracts it, on unbounded integers saturated to 64 bits; and, the spec's inference
in R154, a negative alpha swaps the roles of the bits. -/
def Obligations.PerturbSaturates : Prop :=
  ∀ c alpha : Int,
    perturb c 0x00 alpha = max (-2 ^ 63) (min (2 ^ 63 - 1) (c + alpha)) ∧
    perturb c 0x01 alpha = max (-2 ^ 63) (min (2 ^ 63 - 1) (c - alpha)) ∧
    perturb c 0x00 (-alpha) = perturb c 0x01 alpha ∧ perturb c 0x01 (-alpha) = perturb c 0x00 alpha ∧
    (-2 ^ 63 ≤ c - alpha → c - alpha < 2 ^ 63 → perturb c 0x01 alpha = c - alpha)

/-- R150, R153, R156: EMBED puts bit t of the message into the t-th block in raster order at the position selected in
that block's own transform, inverse-transforms every block into PIX1, copies the dimensions, and counts the bits; it
faults DIMINV when DimsOK fails, else MSGFMT on a used message byte that is neither 0x00 nor 0x01. -/
def Obligations.EmbedWritesWatermark : Prop :=
  decode 0x00000020 = .ok .embed ∧
  (∀ s : State, ¬ dimsOK s.params (s.width .zero) (s.height .zero) → exec .embed s = .next (s.setErr .dimInv)) ∧
  (∀ s : State, dimsOK s.params (s.width .zero) (s.height .zero) →
    (∃ q < min s.msgLen.toNat (s.width .zero / 8 * (s.height .zero / 8)),
      s.byteAt .msgIn q ≠ 0x00 ∧ s.byteAt .msgIn q ≠ 0x01) → exec .embed s = .next (s.setErr .msgFmt)) ∧
  ∀ s : State, dimsOK s.params (s.width .zero) (s.height .zero) →
    (∀ q < min s.msgLen.toNat (s.width .zero / 8 * (s.height .zero / 8)),
      s.byteAt .msgIn q = 0x00 ∨ s.byteAt .msgIn q = 0x01) →
    ∃ t, exec .embed s = .next t ∧
      (∀ y < s.height .zero / 8, ∀ x < s.width .zero / 8, ∀ k < 8, ∀ l < 8,
        t.coefBlock .zero (s.width .zero) y x k l =
          (if y * (s.width .zero / 8) + x < s.msgLen.toNat ∧
              (k, l) = select (fdctBlock (s.pixelBlock .zero (s.width .zero) y x)) then
            perturb (fdctBlock (s.pixelBlock .zero (s.width .zero) y x) k l)
              (s.byteAt .msgIn (y * (s.width .zero / 8) + x)) s.alpha
          else fdctBlock (s.pixelBlock .zero (s.width .zero) y x) k l)) ∧
      (∀ y < s.height .zero / 8, ∀ x < s.width .zero / 8, ∀ i < 8, ∀ j < 8,
        t.pixelBlock .one (s.width .zero) y x i j =
          idctBlock (t.coefBlock .zero (s.width .zero) y x) i j) ∧
      t.w1 = s.w0 ∧ t.h1 = s.h0 ∧
      t.bitCnt.toNat = min s.msgLen.toNat (s.width .zero / 8 * (s.height .zero / 8)) ∧
      t.err = .ok ∧ t.det = s.det ∧
      State.UnchangedOutside [.w1, .h1, .bitCnt, .status]
        (fun id n => (id = .coef0 ∧ n < 8 * (s.width .zero * s.height .zero)) ∨
          (id = .pix1 ∧ n < s.width .zero * s.height .zero)) s t

/-- R209: a message byte that would be used and is neither 0x00 nor 0x01 faults MSGFMT (after DIMINV) and
nothing is embedded; a byte at or beyond min(MSGLEN, capacity) is not looked at: with another value there, EMBED
leads to the same state but for that byte. -/
def Obligations.EmbedChecksMessageFirst : Prop :=
  ∀ s : State, dimsOK s.params (s.width .zero) (s.height .zero) →
    ((∃ q < min s.msgLen.toNat (s.width .zero / 8 * (s.height .zero / 8)),
        s.byteAt .msgIn q ≠ 0x00 ∧ s.byteAt .msgIn q ≠ 0x01) →
      exec .embed s = .next (s.setErr .msgFmt)) ∧
    (∀ (q : Nat) (m : Byte), min s.msgLen.toNat (s.width .zero / 8 * (s.height .zero / 8)) ≤ q →
      ∀ t, exec .embed s = .next t →
        exec .embed (s.storeBytes .msgIn q [m]) = .next (t.storeBytes .msgIn q [m]))

/-- R155: a block that carries no bit comes out of EMBED with each pixel equal to the original or one lower. -/
def Obligations.UnperturbedBlocksLoseAtMostOne : Prop :=
  ∀ s : State, dimsOK s.params (s.width .zero) (s.height .zero) →
    (∀ q < min s.msgLen.toNat (s.width .zero / 8 * (s.height .zero / 8)),
      s.byteAt .msgIn q = 0x00 ∨ s.byteAt .msgIn q = 0x01) →
    ∃ t, exec .embed s = .next t ∧
      ∀ y < s.height .zero / 8, ∀ x < s.width .zero / 8,
        s.msgLen.toNat ≤ y * (s.width .zero / 8) + x → ∀ i < 8, ∀ j < 8,
          t.pixelBlock .one (s.width .zero) y x i j = s.pixelBlock .zero (s.width .zero) y x i j ∨
          t.pixelBlock .one (s.width .zero) y x i j + 1 = s.pixelBlock .zero (s.width .zero) y x i j

/-! ### Extractor (43_extractor.md) -/

/-- R165: XDIFF writes both transforms; its bits are the first `limit` of those that the blocks decode in
raster order, each at the position selected in the SOURCE block; equal blocks decode nothing; no bit at all with
limit > 0 is IDENT; it faults DIMMIS when the banks' dimensions differ, else DIMINV when DimsOK fails. -/
def Obligations.XdiffDecodesRasterBits : Prop :=
  decode 0x00000030 = .ok .xdiff ∧
  (∀ s : State, s.w0 ≠ s.w1 ∨ s.h0 ≠ s.h1 → exec .xdiff s = .next (s.setErr .dimMis)) ∧
  (∀ s : State, s.w0 = s.w1 → s.h0 = s.h1 → ¬ dimsOK s.params (s.width .zero) (s.height .zero) →
    exec .xdiff s = .next (s.setErr .dimInv)) ∧
  ∀ s : State, s.w0 = s.w1 → s.h0 = s.h1 → dimsOK s.params (s.width .zero) (s.height .zero) →
    let bitOf : Nat × Nat → Option Byte := fun q =>
      let F := fdctBlock (s.pixelBlock .zero (s.width .zero) q.1 q.2)
      let G := fdctBlock (s.pixelBlock .one (s.width .zero) q.1 q.2)
      if F (select F).1 (select F).2 > G (select F).1 (select F).2 then some 0x01
      else if F (select F).1 (select F).2 < G (select F).1 (select F).2 then some 0x00 else none
    let blocks := (List.range (s.height .zero / 8)).flatMap fun y =>
      (List.range (s.width .zero / 8)).map fun x => (y, x)
    let limit := if s.forced then 2 ^ 32 - 1 else s.msgLen.toNat
    let bits := (blocks.filterMap bitOf).take limit
    ∃ t, exec .xdiff s = .next t ∧
      (∀ b, ∀ y < s.height .zero / 8, ∀ x < s.width .zero / 8, ∀ k < 8, ∀ l < 8,
        t.coefBlock b (s.width .zero) y x k l = fdctBlock (s.pixelBlock b (s.width .zero) y x) k l) ∧
      t.bitCnt.toNat = bits.length ∧ (∀ n < bits.length, bits[n]? = some (t.byteAt .msgOut n)) ∧
      t.err = (if bits.length = 0 ∧ 0 < limit then .ident else .ok) ∧ t.det = s.det ∧
      State.UnchangedOutside [.bitCnt, .status]
        (fun id n => ((id = .coef0 ∨ id = .coef1) ∧ n < 8 * (s.width .zero * s.height .zero)) ∨
          (id = .msgOut ∧ n < bits.length)) s t

/-- R167, the document's no-op idempotence: identical pixels and a limit above 0 give IDENT with no bit decoded. -/
def Obligations.XdiffIdenticalImages : Prop :=
  ∀ s : State, s.w0 = s.w1 → s.h0 = s.h1 → dimsOK s.params (s.width .zero) (s.height .zero) →
    (∀ n < s.width .zero * s.height .zero, s.byteAt .pix0 n = s.byteAt .pix1 n) →
    (s.forced = true ∨ 0 < s.msgLen.toNat) →
    ∃ t, exec .xdiff s = .next t ∧ t.err = .ident ∧ t.bitCnt = 0 ∧
      ∀ k, t.byteAt .msgOut k = s.byteAt .msgOut k

/-- R205: XDIFF on banks of different dimensions faults DIMMIS, whatever the dimensions are. -/
def Obligations.XdiffMismatchComesFirst : Prop :=
  ∀ s : State, (s.w0 ≠ s.w1 ∨ s.h0 ≠ s.h1) → exec .xdiff s = .next (s.setErr .dimMis)

/-- R166: in forced mode MSGLEN does not matter, and every block is examined (the cap is never reached). -/
def Obligations.ForcedModeIgnoresLength : Prop :=
  ∀ (s t : State) (n : Word), s.forced = true → exec .xdiff s = .next t →
    exec .xdiff { s with msgLen := n } = .next { t with msgLen := n } ∧
    (s.params.wellFormed = true → dimsOK s.params (s.width .zero) (s.height .zero) →
      ∀ (w : Nat) (c0 c1 : List Int),
        diffScan w s.diffLimit c0 c1 (rasterBlocks (s.width .zero) (s.height .zero)) 0 =
          (rasterBlocks (s.width .zero) (s.height .zero)).filterMap (diffBit w c0 c1))

/-- R170: XSELF b decodes the sign of coefficient (0, 1) of the first min(MSGLEN, capacity) blocks in raster order; it
faults DIMINV when DimsOK fails. -/
def Obligations.XselfDecodesSigns : Prop :=
  decode 0x00000031 = .ok (.xself .zero) ∧ decode 0x00000131 = .ok (.xself .one) ∧
  (∀ (b : Bank) (s : State), ¬ dimsOK s.params (s.width b) (s.height b) →
    exec (.xself b) s = .next (s.setErr .dimInv)) ∧
  ∀ (b : Bank) (s : State), dimsOK s.params (s.width b) (s.height b) →
    let cnt := min s.msgLen.toNat (s.width b / 8 * (s.height b / 8))
    ∃ t, exec (.xself b) s = .next t ∧
      (∀ y < s.height b / 8, ∀ x < s.width b / 8, ∀ k < 8, ∀ l < 8,
        t.coefBlock b (s.width b) y x k l = fdctBlock (s.pixelBlock b (s.width b) y x) k l) ∧
      (∀ y < s.height b / 8, ∀ x < s.width b / 8, y * (s.width b / 8) + x < cnt →
        t.byteAt .msgOut (y * (s.width b / 8) + x) =
          if fdctBlock (s.pixelBlock b (s.width b) y x) 0 1 < 0 then 0x01 else 0x00) ∧
      t.bitCnt.toNat = cnt ∧ t.err = .ok ∧ t.det = s.det ∧
      State.UnchangedOutside [.bitCnt, .status]
        (fun id n => (id = coefId b ∧ n < 8 * (s.width b * s.height b)) ∨ (id = .msgOut ∧ n < cnt)) s t

/-! ### The whole machine (60_exceptions.md, 10_state.md) -/

/-- R200, R174(f): no command and no bus access hangs or stops the machine. -/
def Obligations.EveryStepCompletes : Prop :=
  (∀ (i : Instr) (s : State), ∃ t, exec i s = .next t) ∧ ∀ s : State, ∃ t, step s = .next t

/-- R203: when a word written to CMD ends in a fault code, STATUS.ERR is all that changed, and the write completes
on the bus in the normal way. -/
def Obligations.FaultsArePrecise : Prop :=
  ∀ (s t : State) (c : Word) (rest : List BusEvent), s.bus = .write 0 4 c :: rest → step s = .next t →
    t.err ≠ .ok → t.err ≠ .ident → t = { s with bus := rest, reply := some .written, err := t.err }

/-- R202: the values STATUS.ERR can have after each command; ILLCMD after an illegal word. -/
def Obligations.PossibleErrorCodes : Prop :=
  (∀ (i : Instr) (s t : State), exec i s = .next t → t.err ∈ possibleCodes i) ∧
  (∀ (c : Word) (e : DecodeError) (s t : State), decode c = .error e → runCommand c s = .next t →
    t.err = .illCmd)

/-- R38, R216: no command reads STATUS: a stale error code never matters, and DET is only carried along. -/
def Obligations.StatusIsNeverRead : Prop :=
  ∀ (i : Instr) (s t : State) (c : ErrCode) (d : Bool), exec i s = .next t →
    exec i (s.setErr c) = .next t ∧
    ∃ t', exec i (s.setDet d) = .next t' ∧ t'.setDet t.det = t ∧ (i ≠ .srst → i ≠ .mdetect → t'.det = d)

/-- R45, R76: a command writes no register and no byte outside the column "writes" of the table, and never touches the
model's own fields; only MDETECT and SRST write DET. -/
def Obligations.CommandsWriteOnlyTheirTable : Prop :=
  ∀ (i : Instr) (s t : State), exec i s = .next t →
    State.UnchangedOutside (writtenRegs i) (writtenBytes i s t) s t ∧
    (i ≠ .srst → i ≠ .mdetect → t.det = s.det)

/-- R40, R41: no command but IDCT and SEL depends on what COEF0 and COEF1 held, and no command at all on what MSGOUT
held: with other contents there, a command leads to the same state but for those memories, and writes the same bytes. -/
def Obligations.StaleMemoriesDoNotMatter : Prop :=
  (∀ (i : Instr) (s t : State) (m₀ m₁ m₂ : Memory), (∀ b, i ≠ .idct b ∧ i ≠ .sel b) → exec i s = .next t →
    ∃ t', exec i { s with coef0 := m₀, coef1 := m₁, msgOut := m₂ } = .next t' ∧
      { t' with coef0 := t.coef0, coef1 := t.coef1, msgOut := t.msgOut } = t ∧
      (t.err = .ok ∨ t.err = .ident → ∀ id k, writtenBytes i s t id k → t'.byteAt id k = t.byteAt id k)) ∧
  (∀ (i : Instr) (s t : State) (m : Memory), exec i s = .next t →
    ∃ t', exec i { s with msgOut := m } = .next t' ∧ { t' with msgOut := t.msgOut } = t ∧
      (t.err = .ok ∨ t.err = .ident → ∀ id k, writtenBytes i s t id k → t'.byteAt id k = t.byteAt id k))

/-- R26, R28, R31: CTRL is read by XDIFF only, ALPHA by EMBED only, BLKY and BLKX by SEL only. -/
def Obligations.OperandRegistersHaveOneReader : Prop :=
  ∀ (i : Instr) (s t : State), exec i s = .next t →
    (∀ f, i ≠ .xdiff → ∃ t', exec i { s with forced := f } = .next t' ∧ { t' with forced := t.forced } = t) ∧
    (∀ lo hi, i ≠ .embed → ∃ t', exec i { s with alphaLo := lo, alphaHi := hi } = .next t' ∧
      { t' with alphaLo := t.alphaLo, alphaHi := t.alphaHi } = t) ∧
    (∀ y x, (∀ b, i ≠ .sel b) → ∃ t', exec i { s with blkY := y, blkX := x } = .next t' ∧
      { t' with blkY := t.blkY, blkX := t.blkX } = t)

/-- The invariant (R13, R30, R61 and the canonical form of the memories) is kept by every step, from every state
that meets it. -/
def Obligations.InvariantKept : Prop :=
  ∀ s t : State, s.Inv → step s = .next t → t.Inv

/-- The invariant holds right after reset (with the model's own parameters, notes/assumptions 3). -/
def Obligations.InvariantAtReset : Prop := State.reset.Inv

/-- R232: with the registers at their reset values, whatever the memories hold, FDCT, IDCT, EMBED, XSELF and XDIFF
succeed and write no memory element, SEL faults BLKRNG and the metadata commands fault FILERNG. -/
def Obligations.HarmlessAfterReset : Prop :=
  ∀ s : State, (∀ r, readReg s r = readReg State.reset r) →
    (∀ b, ∀ i ∈ ([.fdct b, .idct b, .xself b, .embed, .xdiff] : List Instr), ∃ t, exec i s = .next t ∧
      t.err = .ok ∧ (∀ id k, t.byteAt id k = s.byteAt id k) ∧ t.bitCnt = 0 ∧ t.w1 = 0 ∧ t.h1 = 0) ∧
    (∀ b, exec (.sel b) s = .next (s.setErr .blkRng)) ∧
    ∀ i ∈ ([.mpatch, .mdetect, .mread] : List Instr), exec i s = .next (s.setErr .fileRng)

/-- The worked examples of R150 and R165 (the document's scenario): bit 1 embedded with alpha 0.5 in a gray 8x8 block
makes the 127/128 checkerboard, and differential extraction decodes exactly that bit. -/
def Obligations.GrayBlockScenario : Prop :=
  ∀ s : State, 64 ≤ s.params.maxPix → s.w0 = 8 → s.h0 = 8 → (∀ k < 64, s.byteAt .pix0 k = 128) →
    s.msgLen = 1 → s.byteAt .msgIn 0 = 1 → s.alphaHi = 0 → s.alphaLo = 0x80000000 → s.forced = false →
    ∃ t u, exec .embed s = .next t ∧ t.err = .ok ∧ t.bitCnt = 1 ∧ t.w1 = 8 ∧ t.h1 = 8 ∧
      t.coefAt .zero 63 = -2 ^ 31 ∧
      (∀ y < 8, ∀ x < 8, t.byteAt .pix1 (8 * y + x) = if (x + y) % 2 = 0 then 127 else 128) ∧
      exec .xdiff t = .next u ∧ u.err = .ok ∧ u.bitCnt = 1 ∧ u.byteAt .msgOut 0 = 1 ∧
      u.coefAt .zero 63 = 0 ∧ u.coefAt .one 63 = -14105822769

/-- R157: the counterexample to embed/extract agreement: in a black 8x8 block with alpha 0.5 either bit is lost, the
output equals the input, and XDIFF reports IDENT. -/
def Obligations.BlackBlockLosesTheBit : Prop :=
  ∀ s : State, 64 ≤ s.params.maxPix → s.w0 = 8 → s.h0 = 8 → (∀ k < 64, s.byteAt .pix0 k = 0) →
    s.msgLen = 1 → (s.byteAt .msgIn 0 = 0 ∨ s.byteAt .msgIn 0 = 1) → s.alphaHi = 0 →
    s.alphaLo = 0x80000000 →
    ∃ t u, exec .embed s = .next t ∧ t.err = .ok ∧ t.bitCnt = 1 ∧ (∀ k < 64, t.byteAt .pix1 k = 0) ∧
      exec .xdiff t = .next u ∧ u.err = .ident ∧ u.bitCnt = 0

/-! ### The host's view of the state (10_state.md, 20_memory.md, 60_exceptions.md) -/

/-- R25 to R37, R201: what the host reads in each register. STATUS has the number of the error code in bits 7:0, the
eight numbers written out, and DET in bit 8; CTRL has FORCED in bit 0; SELPOS has its six bits. -/
def Obligations.RegistersReadTheirFields : Prop :=
  (∀ c : ErrCode,
    c ∈ ([.ok, .illCmd, .dimMis, .dimInv, .ident, .msgFmt, .fileRng, .blkRng] : List ErrCode)) ∧
  ∀ s : State,
    (∀ p ∈ ([(.ok, 0), (.illCmd, 1), (.dimMis, 2), (.dimInv, 3), (.ident, 4), (.msgFmt, 5), (.fileRng, 6),
        (.blkRng, 7)] : List (ErrCode × Byte)), s.err = p.1 → (readReg s .status).extractLsb' 0 8 = p.2) ∧
    (readReg s .status).getLsbD 8 = s.det ∧ (readReg s .status).extractLsb' 9 23 = 0 ∧
    readReg s .ctrl = (if s.forced then 1 else 0) ∧ (readReg s .selPos).toNat = s.selPos.toNat ∧
    readReg s .cmd = 0 ∧ readReg s .id = 0x00081E20 ∧
    readReg s .w0 = s.w0 ∧ readReg s .h0 = s.h0 ∧ readReg s .w1 = s.w1 ∧ readReg s .h1 = s.h1 ∧
    readReg s .alphaLo = s.alphaLo ∧ readReg s .alphaHi = s.alphaHi ∧ readReg s .msgLen = s.msgLen ∧
    readReg s .bitCnt = s.bitCnt ∧ readReg s .blkY = s.blkY ∧ readReg s .blkX = s.blkX ∧
    readReg s .selValLo = s.selValLo ∧ readReg s .selValHi = s.selValHi ∧ readReg s .fileLen = s.fileLen ∧
    readReg s .hdrLen = s.hdrLen

/-- R23, R61: the numbers of the registers, and the base address and the size in bytes of each memory, written out. -/
def Obligations.AddressMapWrittenOut : Prop :=
  (([.cmd, .status, .ctrl, .w0, .h0, .w1, .h1, .alphaLo, .alphaHi, .msgLen, .bitCnt, .blkY, .blkX, .selPos,
    .selValLo, .selValHi, .fileLen, .hdrLen, .id] : List Reg).map regNumber = List.range 19) ∧
  ∀ p : Config.Params,
    (([.pix0, .pix1, .coef0, .coef1, .msgIn, .msgOut, .file] : List MemId).map
      fun id => (memBase id, memSize p id)) =
    [ (0x10000000, p.maxPix), (0x20000000, p.maxPix), (0x30000000, 8 * p.maxPix), (0x40000000, 8 * p.maxPix),
      (0x50000000, p.maxPix / 64), (0x60000000, p.maxPix / 64), (0x70000000, p.maxFile) ]
end

