-- ==== Sys2Proof/Laws/Arith.lean ====
section
/-! SUPPORT. The arithmetic primitives and the addressing, said once. -/

namespace Sys2Proof.Machine

theorem clamp8_range (v : Int) : 0 ≤ clamp8 v ∧ clamp8 v ≤ 255 := by
  unfold clamp8; omega

theorem clamp8_of_mem {v : Int} (h₀ : 0 ≤ v) (h₁ : v ≤ 255) : clamp8 v = v := by
  unfold clamp8; omega

theorem sat64_range (v : Int) : -2 ^ 63 ≤ sat64 v ∧ sat64 v ≤ 2 ^ 63 - 1 := by
  unfold sat64; omega

theorem sat64_of_mem {v : Int} (h₀ : -2 ^ 63 ≤ v) (h₁ : v ≤ 2 ^ 63 - 1) : sat64 v = v := by
  unfold sat64; omega

/-- Round half up is within one half of a unit: 2^n · rhu(v, n) is the multiple of 2^n nearest to v. -/
theorem rhu_bounds (v : Int) (n : Nat) :
    rhu v n * 2 ^ n ≤ v + 2 ^ (n - 1) ∧ v + 2 ^ (n - 1) < (rhu v n + 1) * 2 ^ n := by
  have hp : (0 : Int) < 2 ^ n := by positivity
  exact ⟨Int.ediv_mul_le _ (ne_of_gt hp), Int.lt_ediv_add_one_mul_self _ hp⟩

theorem idctBlock_range (F : Nat → Nat → Int) (i j : Nat) : 0 ≤ idctBlock F i j ∧ idctBlock F i j ≤ 255 :=
  clamp8_range _

/-! ### Blocks of a plane (20_memory.md R73) -/

/-- A block element lies inside the plane, and its row, column, block and position are read off its index. -/
theorem blkIdx_facts {w h y x r c : Nat} (hw : w % 8 = 0) (hy : y < h / 8) (hx : x < w / 8) (hr : r < 8)
    (hc : c < 8) :
    blkIdx w y x r c < w * h ∧ blkIdx w y x r c / w = 8 * y + r ∧ blkIdx w y x r c % w = 8 * x + c := by
  have hcol : 8 * x + c < w := by omega
  have hrow : 8 * y + r < h := by omega
  refine ⟨?_, ?_, ?_⟩
  · calc blkIdx w y x r c < (8 * y + r) * w + w := by unfold blkIdx; omega
      _ = (8 * y + r + 1) * w := by ring
      _ ≤ h * w := Nat.mul_le_mul_right w hrow
      _ = w * h := Nat.mul_comm h w
  · rw [blkIdx, Nat.mul_comm, Nat.mul_add_div (by omega), Nat.div_eq_of_lt hcol, Nat.add_zero]
  · rw [blkIdx, Nat.mul_comm, Nat.mul_add_mod, Nat.mod_eq_of_lt hcol]

@[simp] theorem length_mapBlocks (f : (Nat → Nat → Int) → Nat → Nat → Int) (p : List Int) (w h : Nat) :
    (mapBlocks f p w h).length = w * h := by simp [mapBlocks]

/-- R119, R120: the block (y, x) of the result is the block function of the block (y, x) of the plane. -/
theorem planeBlock_mapBlocks (f : (Nat → Nat → Int) → Nat → Nat → Int) (p : List Int) {w h y x r c : Nat}
    (hw : w % 8 = 0) (hy : y < h / 8) (hx : x < w / 8) (hr : r < 8) (hc : c < 8) :
    planeBlock (mapBlocks f p w h) w y x r c = f (planeBlock p w y x) r c := by
  obtain ⟨hlt, hdiv, hmod⟩ := blkIdx_facts hw hy hx hr hc
  simp only [planeBlock, mapBlocks, List.getD, List.getElem?_map, List.getElem?_range hlt, Option.map_some,
    Option.getD_some, hdiv, hmod]
  congr 1 <;> first | omega | (congr 1 <;> omega)

@[simp] theorem length_fdctPlane (p : List Int) (w h : Nat) : (fdctPlane p w h).length = w * h :=
  length_mapBlocks ..

@[simp] theorem length_idctPlane (p : List Int) (w h : Nat) : (idctPlane p w h).length = w * h :=
  length_mapBlocks ..

@[simp] theorem length_transformOf (s : State) (b : Bank) (w h : Nat) :
    (s.transformOf b w h).length = w * h := length_mapBlocks ..

theorem mem_rasterBlocks {w h : Nat} {blk : Nat × Nat} (hb : blk ∈ rasterBlocks w h) :
    blk.1 < h / 8 ∧ blk.2 < w / 8 := by
  simp only [rasterBlocks, List.mem_map, List.mem_range] at hb
  obtain ⟨t, ht, rfl⟩ := hb
  have hpos : 0 < w / 8 := Nat.pos_of_ne_zero fun h0 => by simp [capacity, h0] at ht
  exact ⟨Nat.div_lt_of_lt_mul ht, Nat.mod_lt _ hpos⟩

@[simp] theorem length_rasterBlocks (w h : Nat) : (rasterBlocks w h).length = capacity w h := by
  simp [rasterBlocks]

/-- The raster order is the two nested loops of the commands' pseudocode: `by` outside, `bx` inside (log 8). -/
theorem rasterBlocks_eq_loops (w h : Nat) :
    rasterBlocks w h = (List.range (h / 8)).flatMap fun y => (List.range (w / 8)).map fun x => (y, x) := by
  simp only [rasterBlocks, capacity]
  generalize w / 8 = m
  rw [Nat.mul_comm]
  induction h / 8 with
  | zero => simp
  | succ n ih =>
    rw [Nat.succ_mul, List.range_add, List.map_append, ih, List.range_succ, List.flatMap_append]
    simp only [List.map_map, List.flatMap_cons, List.flatMap_nil, List.append_nil]
    refine congrArg _ (List.map_congr_left fun x hx => ?_)
    have hx := List.mem_range.1 hx
    simp only [Function.comp, Prod.mk.injEq]
    rw [Nat.mul_comm n m, Nat.mul_add_div (by omega), Nat.div_eq_of_lt hx, Nat.mul_add_mod,
      Nat.mod_eq_of_lt hx]
    simp

/-- The capacity of a plane that fits the pixel memory fits the message memories (R13). -/
theorem capacity_le_maxMsg {p : Config.Params} {w h : Nat} (hd : dimsOK p w h) : capacity w h ≤ p.maxMsg := by
  obtain ⟨hw, hh, hle⟩ := hd
  rw [Config.Params.maxMsg, Nat.le_div_iff_mul_le (by omega), capacity]
  calc w / 8 * (h / 8) * 64 = (8 * (w / 8)) * (8 * (h / 8)) := by ring
    _ = w * h := by rw [Nat.mul_div_cancel' (Nat.dvd_of_mod_eq_zero hw), Nat.mul_div_cancel' (Nat.dvd_of_mod_eq_zero hh)]
    _ ≤ p.maxPix := hle

end Sys2Proof.Machine
end

