-- ==== Sys2Proof/Laws/State.lean ====
section
/-! SUPPORT. One lemma per field per update of the state, so that no later proof unfolds a record update. -/

namespace Sys2Proof.Machine

variable (s : State)

/-! ### setErr -/

@[simp] theorem State.setErr_params (c : ErrCode) : (s.setErr c).params = s.params := rfl
@[simp] theorem State.setErr_resets (c : ErrCode) : (s.setErr c).resets = s.resets := rfl
@[simp] theorem State.setErr_bus (c : ErrCode) : (s.setErr c).bus = s.bus := rfl
@[simp] theorem State.setErr_reply (c : ErrCode) : (s.setErr c).reply = s.reply := rfl
@[simp] theorem State.setErr_err (c : ErrCode) : (s.setErr c).err = c := rfl
@[simp] theorem State.setErr_det (c : ErrCode) : (s.setErr c).det = s.det := rfl
@[simp] theorem State.setErr_forced (c : ErrCode) : (s.setErr c).forced = s.forced := rfl
@[simp] theorem State.setErr_w0 (c : ErrCode) : (s.setErr c).w0 = s.w0 := rfl
@[simp] theorem State.setErr_h0 (c : ErrCode) : (s.setErr c).h0 = s.h0 := rfl
@[simp] theorem State.setErr_w1 (c : ErrCode) : (s.setErr c).w1 = s.w1 := rfl
@[simp] theorem State.setErr_h1 (c : ErrCode) : (s.setErr c).h1 = s.h1 := rfl
@[simp] theorem State.setErr_alphaLo (c : ErrCode) : (s.setErr c).alphaLo = s.alphaLo := rfl
@[simp] theorem State.setErr_alphaHi (c : ErrCode) : (s.setErr c).alphaHi = s.alphaHi := rfl
@[simp] theorem State.setErr_msgLen (c : ErrCode) : (s.setErr c).msgLen = s.msgLen := rfl
@[simp] theorem State.setErr_bitCnt (c : ErrCode) : (s.setErr c).bitCnt = s.bitCnt := rfl
@[simp] theorem State.setErr_blkY (c : ErrCode) : (s.setErr c).blkY = s.blkY := rfl
@[simp] theorem State.setErr_blkX (c : ErrCode) : (s.setErr c).blkX = s.blkX := rfl
@[simp] theorem State.setErr_selPos (c : ErrCode) : (s.setErr c).selPos = s.selPos := rfl
@[simp] theorem State.setErr_selValLo (c : ErrCode) : (s.setErr c).selValLo = s.selValLo := rfl
@[simp] theorem State.setErr_selValHi (c : ErrCode) : (s.setErr c).selValHi = s.selValHi := rfl
@[simp] theorem State.setErr_fileLen (c : ErrCode) : (s.setErr c).fileLen = s.fileLen := rfl
@[simp] theorem State.setErr_hdrLen (c : ErrCode) : (s.setErr c).hdrLen = s.hdrLen := rfl
@[simp] theorem State.setErr_mem (c : ErrCode) (id : MemId) : (s.setErr c).mem id = s.mem id := by cases id <;> rfl
@[simp] theorem State.setErr_byteAt (c : ErrCode) (id : MemId) (k : Nat) : (s.setErr c).byteAt id k = s.byteAt id k := by
  simp [State.byteAt]

/-! ### setDet -/

@[simp] theorem State.setDet_params (d : Bool) : (s.setDet d).params = s.params := rfl
@[simp] theorem State.setDet_resets (d : Bool) : (s.setDet d).resets = s.resets := rfl
@[simp] theorem State.setDet_bus (d : Bool) : (s.setDet d).bus = s.bus := rfl
@[simp] theorem State.setDet_reply (d : Bool) : (s.setDet d).reply = s.reply := rfl
@[simp] theorem State.setDet_err (d : Bool) : (s.setDet d).err = s.err := rfl
@[simp] theorem State.setDet_det (d : Bool) : (s.setDet d).det = d := rfl
@[simp] theorem State.setDet_forced (d : Bool) : (s.setDet d).forced = s.forced := rfl
@[simp] theorem State.setDet_w0 (d : Bool) : (s.setDet d).w0 = s.w0 := rfl
@[simp] theorem State.setDet_h0 (d : Bool) : (s.setDet d).h0 = s.h0 := rfl
@[simp] theorem State.setDet_w1 (d : Bool) : (s.setDet d).w1 = s.w1 := rfl
@[simp] theorem State.setDet_h1 (d : Bool) : (s.setDet d).h1 = s.h1 := rfl
@[simp] theorem State.setDet_alphaLo (d : Bool) : (s.setDet d).alphaLo = s.alphaLo := rfl
@[simp] theorem State.setDet_alphaHi (d : Bool) : (s.setDet d).alphaHi = s.alphaHi := rfl
@[simp] theorem State.setDet_msgLen (d : Bool) : (s.setDet d).msgLen = s.msgLen := rfl
@[simp] theorem State.setDet_bitCnt (d : Bool) : (s.setDet d).bitCnt = s.bitCnt := rfl
@[simp] theorem State.setDet_blkY (d : Bool) : (s.setDet d).blkY = s.blkY := rfl
@[simp] theorem State.setDet_blkX (d : Bool) : (s.setDet d).blkX = s.blkX := rfl
@[simp] theorem State.setDet_selPos (d : Bool) : (s.setDet d).selPos = s.selPos := rfl
@[simp] theorem State.setDet_selValLo (d : Bool) : (s.setDet d).selValLo = s.selValLo := rfl
@[simp] theorem State.setDet_selValHi (d : Bool) : (s.setDet d).selValHi = s.selValHi := rfl
@[simp] theorem State.setDet_fileLen (d : Bool) : (s.setDet d).fileLen = s.fileLen := rfl
@[simp] theorem State.setDet_hdrLen (d : Bool) : (s.setDet d).hdrLen = s.hdrLen := rfl
@[simp] theorem State.setDet_mem (d : Bool) (id : MemId) : (s.setDet d).mem id = s.mem id := by cases id <;> rfl
@[simp] theorem State.setDet_byteAt (d : Bool) (id : MemId) (k : Nat) : (s.setDet d).byteAt id k = s.byteAt id k := by
  simp [State.byteAt]

/-! ### setBitCnt -/

@[simp] theorem State.setBitCnt_params (n : Nat) : (s.setBitCnt n).params = s.params := rfl
@[simp] theorem State.setBitCnt_resets (n : Nat) : (s.setBitCnt n).resets = s.resets := rfl
@[simp] theorem State.setBitCnt_bus (n : Nat) : (s.setBitCnt n).bus = s.bus := rfl
@[simp] theorem State.setBitCnt_reply (n : Nat) : (s.setBitCnt n).reply = s.reply := rfl
@[simp] theorem State.setBitCnt_err (n : Nat) : (s.setBitCnt n).err = s.err := rfl
@[simp] theorem State.setBitCnt_det (n : Nat) : (s.setBitCnt n).det = s.det := rfl
@[simp] theorem State.setBitCnt_forced (n : Nat) : (s.setBitCnt n).forced = s.forced := rfl
@[simp] theorem State.setBitCnt_w0 (n : Nat) : (s.setBitCnt n).w0 = s.w0 := rfl
@[simp] theorem State.setBitCnt_h0 (n : Nat) : (s.setBitCnt n).h0 = s.h0 := rfl
@[simp] theorem State.setBitCnt_w1 (n : Nat) : (s.setBitCnt n).w1 = s.w1 := rfl
@[simp] theorem State.setBitCnt_h1 (n : Nat) : (s.setBitCnt n).h1 = s.h1 := rfl
@[simp] theorem State.setBitCnt_alphaLo (n : Nat) : (s.setBitCnt n).alphaLo = s.alphaLo := rfl
@[simp] theorem State.setBitCnt_alphaHi (n : Nat) : (s.setBitCnt n).alphaHi = s.alphaHi := rfl
@[simp] theorem State.setBitCnt_msgLen (n : Nat) : (s.setBitCnt n).msgLen = s.msgLen := rfl
@[simp] theorem State.setBitCnt_bitCnt (n : Nat) : (s.setBitCnt n).bitCnt = BitVec.ofNat 32 n := rfl
@[simp] theorem State.setBitCnt_blkY (n : Nat) : (s.setBitCnt n).blkY = s.blkY := rfl
@[simp] theorem State.setBitCnt_blkX (n : Nat) : (s.setBitCnt n).blkX = s.blkX := rfl
@[simp] theorem State.setBitCnt_selPos (n : Nat) : (s.setBitCnt n).selPos = s.selPos := rfl
@[simp] theorem State.setBitCnt_selValLo (n : Nat) : (s.setBitCnt n).selValLo = s.selValLo := rfl
@[simp] theorem State.setBitCnt_selValHi (n : Nat) : (s.setBitCnt n).selValHi = s.selValHi := rfl
@[simp] theorem State.setBitCnt_fileLen (n : Nat) : (s.setBitCnt n).fileLen = s.fileLen := rfl
@[simp] theorem State.setBitCnt_hdrLen (n : Nat) : (s.setBitCnt n).hdrLen = s.hdrLen := rfl
@[simp] theorem State.setBitCnt_mem (n : Nat) (id : MemId) : (s.setBitCnt n).mem id = s.mem id := by cases id <;> rfl
@[simp] theorem State.setBitCnt_byteAt (n : Nat) (id : MemId) (k : Nat) : (s.setBitCnt n).byteAt id k = s.byteAt id k := by
  simp [State.byteAt]

/-! ### setDims1 -/

@[simp] theorem State.setDims1_params (w h : Word) : (s.setDims1 w h).params = s.params := rfl
@[simp] theorem State.setDims1_resets (w h : Word) : (s.setDims1 w h).resets = s.resets := rfl
@[simp] theorem State.setDims1_bus (w h : Word) : (s.setDims1 w h).bus = s.bus := rfl
@[simp] theorem State.setDims1_reply (w h : Word) : (s.setDims1 w h).reply = s.reply := rfl
@[simp] theorem State.setDims1_err (w h : Word) : (s.setDims1 w h).err = s.err := rfl
@[simp] theorem State.setDims1_det (w h : Word) : (s.setDims1 w h).det = s.det := rfl
@[simp] theorem State.setDims1_forced (w h : Word) : (s.setDims1 w h).forced = s.forced := rfl
@[simp] theorem State.setDims1_w0 (w h : Word) : (s.setDims1 w h).w0 = s.w0 := rfl
@[simp] theorem State.setDims1_h0 (w h : Word) : (s.setDims1 w h).h0 = s.h0 := rfl
@[simp] theorem State.setDims1_w1 (w h : Word) : (s.setDims1 w h).w1 = w := rfl
@[simp] theorem State.setDims1_h1 (w h : Word) : (s.setDims1 w h).h1 = h := rfl
@[simp] theorem State.setDims1_alphaLo (w h : Word) : (s.setDims1 w h).alphaLo = s.alphaLo := rfl
@[simp] theorem State.setDims1_alphaHi (w h : Word) : (s.setDims1 w h).alphaHi = s.alphaHi := rfl
@[simp] theorem State.setDims1_msgLen (w h : Word) : (s.setDims1 w h).msgLen = s.msgLen := rfl
@[simp] theorem State.setDims1_bitCnt (w h : Word) : (s.setDims1 w h).bitCnt = s.bitCnt := rfl
@[simp] theorem State.setDims1_blkY (w h : Word) : (s.setDims1 w h).blkY = s.blkY := rfl
@[simp] theorem State.setDims1_blkX (w h : Word) : (s.setDims1 w h).blkX = s.blkX := rfl
@[simp] theorem State.setDims1_selPos (w h : Word) : (s.setDims1 w h).selPos = s.selPos := rfl
@[simp] theorem State.setDims1_selValLo (w h : Word) : (s.setDims1 w h).selValLo = s.selValLo := rfl
@[simp] theorem State.setDims1_selValHi (w h : Word) : (s.setDims1 w h).selValHi = s.selValHi := rfl
@[simp] theorem State.setDims1_fileLen (w h : Word) : (s.setDims1 w h).fileLen = s.fileLen := rfl
@[simp] theorem State.setDims1_hdrLen (w h : Word) : (s.setDims1 w h).hdrLen = s.hdrLen := rfl
@[simp] theorem State.setDims1_mem (w h : Word) (id : MemId) : (s.setDims1 w h).mem id = s.mem id := by cases id <;> rfl
@[simp] theorem State.setDims1_byteAt (w h : Word) (id : MemId) (k : Nat) : (s.setDims1 w h).byteAt id k = s.byteAt id k := by
  simp [State.byteAt]

/-! ### setHdrLen -/

@[simp] theorem State.setHdrLen_params (v : Nat) : (s.setHdrLen v).params = s.params := rfl
@[simp] theorem State.setHdrLen_resets (v : Nat) : (s.setHdrLen v).resets = s.resets := rfl
@[simp] theorem State.setHdrLen_bus (v : Nat) : (s.setHdrLen v).bus = s.bus := rfl
@[simp] theorem State.setHdrLen_reply (v : Nat) : (s.setHdrLen v).reply = s.reply := rfl
@[simp] theorem State.setHdrLen_err (v : Nat) : (s.setHdrLen v).err = s.err := rfl
@[simp] theorem State.setHdrLen_det (v : Nat) : (s.setHdrLen v).det = s.det := rfl
@[simp] theorem State.setHdrLen_forced (v : Nat) : (s.setHdrLen v).forced = s.forced := rfl
@[simp] theorem State.setHdrLen_w0 (v : Nat) : (s.setHdrLen v).w0 = s.w0 := rfl
@[simp] theorem State.setHdrLen_h0 (v : Nat) : (s.setHdrLen v).h0 = s.h0 := rfl
@[simp] theorem State.setHdrLen_w1 (v : Nat) : (s.setHdrLen v).w1 = s.w1 := rfl
@[simp] theorem State.setHdrLen_h1 (v : Nat) : (s.setHdrLen v).h1 = s.h1 := rfl
@[simp] theorem State.setHdrLen_alphaLo (v : Nat) : (s.setHdrLen v).alphaLo = s.alphaLo := rfl
@[simp] theorem State.setHdrLen_alphaHi (v : Nat) : (s.setHdrLen v).alphaHi = s.alphaHi := rfl
@[simp] theorem State.setHdrLen_msgLen (v : Nat) : (s.setHdrLen v).msgLen = s.msgLen := rfl
@[simp] theorem State.setHdrLen_bitCnt (v : Nat) : (s.setHdrLen v).bitCnt = s.bitCnt := rfl
@[simp] theorem State.setHdrLen_blkY (v : Nat) : (s.setHdrLen v).blkY = s.blkY := rfl
@[simp] theorem State.setHdrLen_blkX (v : Nat) : (s.setHdrLen v).blkX = s.blkX := rfl
@[simp] theorem State.setHdrLen_selPos (v : Nat) : (s.setHdrLen v).selPos = s.selPos := rfl
@[simp] theorem State.setHdrLen_selValLo (v : Nat) : (s.setHdrLen v).selValLo = s.selValLo := rfl
@[simp] theorem State.setHdrLen_selValHi (v : Nat) : (s.setHdrLen v).selValHi = s.selValHi := rfl
@[simp] theorem State.setHdrLen_fileLen (v : Nat) : (s.setHdrLen v).fileLen = s.fileLen := rfl
@[simp] theorem State.setHdrLen_hdrLen (v : Nat) : (s.setHdrLen v).hdrLen = BitVec.ofNat 32 v := rfl
@[simp] theorem State.setHdrLen_mem (v : Nat) (id : MemId) : (s.setHdrLen v).mem id = s.mem id := by cases id <;> rfl
@[simp] theorem State.setHdrLen_byteAt (v : Nat) (id : MemId) (k : Nat) : (s.setHdrLen v).byteAt id k = s.byteAt id k := by
  simp [State.byteAt]

/-! ### setBus -/

@[simp] theorem State.setBus_params (es : List BusEvent) : (s.setBus es).params = s.params := rfl
@[simp] theorem State.setBus_resets (es : List BusEvent) : (s.setBus es).resets = s.resets := rfl
@[simp] theorem State.setBus_bus (es : List BusEvent) : (s.setBus es).bus = es := rfl
@[simp] theorem State.setBus_reply (es : List BusEvent) : (s.setBus es).reply = s.reply := rfl
@[simp] theorem State.setBus_err (es : List BusEvent) : (s.setBus es).err = s.err := rfl
@[simp] theorem State.setBus_det (es : List BusEvent) : (s.setBus es).det = s.det := rfl
@[simp] theorem State.setBus_forced (es : List BusEvent) : (s.setBus es).forced = s.forced := rfl
@[simp] theorem State.setBus_w0 (es : List BusEvent) : (s.setBus es).w0 = s.w0 := rfl
@[simp] theorem State.setBus_h0 (es : List BusEvent) : (s.setBus es).h0 = s.h0 := rfl
@[simp] theorem State.setBus_w1 (es : List BusEvent) : (s.setBus es).w1 = s.w1 := rfl
@[simp] theorem State.setBus_h1 (es : List BusEvent) : (s.setBus es).h1 = s.h1 := rfl
@[simp] theorem State.setBus_alphaLo (es : List BusEvent) : (s.setBus es).alphaLo = s.alphaLo := rfl
@[simp] theorem State.setBus_alphaHi (es : List BusEvent) : (s.setBus es).alphaHi = s.alphaHi := rfl
@[simp] theorem State.setBus_msgLen (es : List BusEvent) : (s.setBus es).msgLen = s.msgLen := rfl
@[simp] theorem State.setBus_bitCnt (es : List BusEvent) : (s.setBus es).bitCnt = s.bitCnt := rfl
@[simp] theorem State.setBus_blkY (es : List BusEvent) : (s.setBus es).blkY = s.blkY := rfl
@[simp] theorem State.setBus_blkX (es : List BusEvent) : (s.setBus es).blkX = s.blkX := rfl
@[simp] theorem State.setBus_selPos (es : List BusEvent) : (s.setBus es).selPos = s.selPos := rfl
@[simp] theorem State.setBus_selValLo (es : List BusEvent) : (s.setBus es).selValLo = s.selValLo := rfl
@[simp] theorem State.setBus_selValHi (es : List BusEvent) : (s.setBus es).selValHi = s.selValHi := rfl
@[simp] theorem State.setBus_fileLen (es : List BusEvent) : (s.setBus es).fileLen = s.fileLen := rfl
@[simp] theorem State.setBus_hdrLen (es : List BusEvent) : (s.setBus es).hdrLen = s.hdrLen := rfl
@[simp] theorem State.setBus_mem (es : List BusEvent) (id : MemId) : (s.setBus es).mem id = s.mem id := by cases id <;> rfl
@[simp] theorem State.setBus_byteAt (es : List BusEvent) (id : MemId) (k : Nat) : (s.setBus es).byteAt id k = s.byteAt id k := by
  simp [State.byteAt]

/-! ### answer -/

@[simp] theorem State.answer_params (r : BusReply) : (s.answer r).params = s.params := rfl
@[simp] theorem State.answer_resets (r : BusReply) : (s.answer r).resets = s.resets := rfl
@[simp] theorem State.answer_bus (r : BusReply) : (s.answer r).bus = s.bus := rfl
@[simp] theorem State.answer_reply (r : BusReply) : (s.answer r).reply = some r := rfl
@[simp] theorem State.answer_err (r : BusReply) : (s.answer r).err = s.err := rfl
@[simp] theorem State.answer_det (r : BusReply) : (s.answer r).det = s.det := rfl
@[simp] theorem State.answer_forced (r : BusReply) : (s.answer r).forced = s.forced := rfl
@[simp] theorem State.answer_w0 (r : BusReply) : (s.answer r).w0 = s.w0 := rfl
@[simp] theorem State.answer_h0 (r : BusReply) : (s.answer r).h0 = s.h0 := rfl
@[simp] theorem State.answer_w1 (r : BusReply) : (s.answer r).w1 = s.w1 := rfl
@[simp] theorem State.answer_h1 (r : BusReply) : (s.answer r).h1 = s.h1 := rfl
@[simp] theorem State.answer_alphaLo (r : BusReply) : (s.answer r).alphaLo = s.alphaLo := rfl
@[simp] theorem State.answer_alphaHi (r : BusReply) : (s.answer r).alphaHi = s.alphaHi := rfl
@[simp] theorem State.answer_msgLen (r : BusReply) : (s.answer r).msgLen = s.msgLen := rfl
@[simp] theorem State.answer_bitCnt (r : BusReply) : (s.answer r).bitCnt = s.bitCnt := rfl
@[simp] theorem State.answer_blkY (r : BusReply) : (s.answer r).blkY = s.blkY := rfl
@[simp] theorem State.answer_blkX (r : BusReply) : (s.answer r).blkX = s.blkX := rfl
@[simp] theorem State.answer_selPos (r : BusReply) : (s.answer r).selPos = s.selPos := rfl
@[simp] theorem State.answer_selValLo (r : BusReply) : (s.answer r).selValLo = s.selValLo := rfl
@[simp] theorem State.answer_selValHi (r : BusReply) : (s.answer r).selValHi = s.selValHi := rfl
@[simp] theorem State.answer_fileLen (r : BusReply) : (s.answer r).fileLen = s.fileLen := rfl
@[simp] theorem State.answer_hdrLen (r : BusReply) : (s.answer r).hdrLen = s.hdrLen := rfl
@[simp] theorem State.answer_mem (r : BusReply) (id : MemId) : (s.answer r).mem id = s.mem id := by cases id <;> rfl
@[simp] theorem State.answer_byteAt (r : BusReply) (id : MemId) (k : Nat) : (s.answer r).byteAt id k = s.byteAt id k := by
  simp [State.byteAt]

/-! ### setSelection -/

@[simp] theorem State.setSelection_params (r c : Nat) (v : CoefWord) : (s.setSelection r c v).params = s.params := rfl
@[simp] theorem State.setSelection_resets (r c : Nat) (v : CoefWord) : (s.setSelection r c v).resets = s.resets := rfl
@[simp] theorem State.setSelection_bus (r c : Nat) (v : CoefWord) : (s.setSelection r c v).bus = s.bus := rfl
@[simp] theorem State.setSelection_reply (r c : Nat) (v : CoefWord) : (s.setSelection r c v).reply = s.reply := rfl
@[simp] theorem State.setSelection_err (r c : Nat) (v : CoefWord) : (s.setSelection r c v).err = s.err := rfl
@[simp] theorem State.setSelection_det (r c : Nat) (v : CoefWord) : (s.setSelection r c v).det = s.det := rfl
@[simp] theorem State.setSelection_forced (r c : Nat) (v : CoefWord) : (s.setSelection r c v).forced = s.forced := rfl
@[simp] theorem State.setSelection_w0 (r c : Nat) (v : CoefWord) : (s.setSelection r c v).w0 = s.w0 := rfl
@[simp] theorem State.setSelection_h0 (r c : Nat) (v : CoefWord) : (s.setSelection r c v).h0 = s.h0 := rfl
@[simp] theorem State.setSelection_w1 (r c : Nat) (v : CoefWord) : (s.setSelection r c v).w1 = s.w1 := rfl
@[simp] theorem State.setSelection_h1 (r c : Nat) (v : CoefWord) : (s.setSelection r c v).h1 = s.h1 := rfl
@[simp] theorem State.setSelection_alphaLo (r c : Nat) (v : CoefWord) : (s.setSelection r c v).alphaLo = s.alphaLo := rfl
@[simp] theorem State.setSelection_alphaHi (r c : Nat) (v : CoefWord) : (s.setSelection r c v).alphaHi = s.alphaHi := rfl
@[simp] theorem State.setSelection_msgLen (r c : Nat) (v : CoefWord) : (s.setSelection r c v).msgLen = s.msgLen := rfl
@[simp] theorem State.setSelection_bitCnt (r c : Nat) (v : CoefWord) : (s.setSelection r c v).bitCnt = s.bitCnt := rfl
@[simp] theorem State.setSelection_blkY (r c : Nat) (v : CoefWord) : (s.setSelection r c v).blkY = s.blkY := rfl
@[simp] theorem State.setSelection_blkX (r c : Nat) (v : CoefWord) : (s.setSelection r c v).blkX = s.blkX := rfl
@[simp] theorem State.setSelection_selPos (r c : Nat) (v : CoefWord) : (s.setSelection r c v).selPos = BitVec.ofNat 6 (8 * r + c) := rfl
@[simp] theorem State.setSelection_selValLo (r c : Nat) (v : CoefWord) : (s.setSelection r c v).selValLo = v.extractLsb' 0 32 := rfl
@[simp] theorem State.setSelection_selValHi (r c : Nat) (v : CoefWord) : (s.setSelection r c v).selValHi = v.extractLsb' 32 32 := rfl
@[simp] theorem State.setSelection_fileLen (r c : Nat) (v : CoefWord) : (s.setSelection r c v).fileLen = s.fileLen := rfl
@[simp] theorem State.setSelection_hdrLen (r c : Nat) (v : CoefWord) : (s.setSelection r c v).hdrLen = s.hdrLen := rfl
@[simp] theorem State.setSelection_mem (r c : Nat) (v : CoefWord) (id : MemId) : (s.setSelection r c v).mem id = s.mem id := by cases id <;> rfl
@[simp] theorem State.setSelection_byteAt (r c : Nat) (v : CoefWord) (id : MemId) (k : Nat) : (s.setSelection r c v).byteAt id k = s.byteAt id k := by
  simp [State.byteAt]

/-! ### setMem -/

@[simp] theorem State.setMem_params (id : MemId) (m : Memory) : (s.setMem id m).params = s.params := by cases id <;> rfl
@[simp] theorem State.setMem_resets (id : MemId) (m : Memory) : (s.setMem id m).resets = s.resets := by cases id <;> rfl
@[simp] theorem State.setMem_bus (id : MemId) (m : Memory) : (s.setMem id m).bus = s.bus := by cases id <;> rfl
@[simp] theorem State.setMem_reply (id : MemId) (m : Memory) : (s.setMem id m).reply = s.reply := by cases id <;> rfl
@[simp] theorem State.setMem_err (id : MemId) (m : Memory) : (s.setMem id m).err = s.err := by cases id <;> rfl
@[simp] theorem State.setMem_det (id : MemId) (m : Memory) : (s.setMem id m).det = s.det := by cases id <;> rfl
@[simp] theorem State.setMem_forced (id : MemId) (m : Memory) : (s.setMem id m).forced = s.forced := by cases id <;> rfl
@[simp] theorem State.setMem_w0 (id : MemId) (m : Memory) : (s.setMem id m).w0 = s.w0 := by cases id <;> rfl
@[simp] theorem State.setMem_h0 (id : MemId) (m : Memory) : (s.setMem id m).h0 = s.h0 := by cases id <;> rfl
@[simp] theorem State.setMem_w1 (id : MemId) (m : Memory) : (s.setMem id m).w1 = s.w1 := by cases id <;> rfl
@[simp] theorem State.setMem_h1 (id : MemId) (m : Memory) : (s.setMem id m).h1 = s.h1 := by cases id <;> rfl
@[simp] theorem State.setMem_alphaLo (id : MemId) (m : Memory) : (s.setMem id m).alphaLo = s.alphaLo := by cases id <;> rfl
@[simp] theorem State.setMem_alphaHi (id : MemId) (m : Memory) : (s.setMem id m).alphaHi = s.alphaHi := by cases id <;> rfl
@[simp] theorem State.setMem_msgLen (id : MemId) (m : Memory) : (s.setMem id m).msgLen = s.msgLen := by cases id <;> rfl
@[simp] theorem State.setMem_bitCnt (id : MemId) (m : Memory) : (s.setMem id m).bitCnt = s.bitCnt := by cases id <;> rfl
@[simp] theorem State.setMem_blkY (id : MemId) (m : Memory) : (s.setMem id m).blkY = s.blkY := by cases id <;> rfl
@[simp] theorem State.setMem_blkX (id : MemId) (m : Memory) : (s.setMem id m).blkX = s.blkX := by cases id <;> rfl
@[simp] theorem State.setMem_selPos (id : MemId) (m : Memory) : (s.setMem id m).selPos = s.selPos := by cases id <;> rfl
@[simp] theorem State.setMem_selValLo (id : MemId) (m : Memory) : (s.setMem id m).selValLo = s.selValLo := by cases id <;> rfl
@[simp] theorem State.setMem_selValHi (id : MemId) (m : Memory) : (s.setMem id m).selValHi = s.selValHi := by cases id <;> rfl
@[simp] theorem State.setMem_fileLen (id : MemId) (m : Memory) : (s.setMem id m).fileLen = s.fileLen := by cases id <;> rfl
@[simp] theorem State.setMem_hdrLen (id : MemId) (m : Memory) : (s.setMem id m).hdrLen = s.hdrLen := by cases id <;> rfl

/-! ### storeBytes -/

@[simp] theorem State.storeBytes_params (id : MemId) (a : Nat) (bs : List Byte) : (s.storeBytes id a bs).params = s.params := State.setMem_params ..
@[simp] theorem State.storeBytes_resets (id : MemId) (a : Nat) (bs : List Byte) : (s.storeBytes id a bs).resets = s.resets := State.setMem_resets ..
@[simp] theorem State.storeBytes_bus (id : MemId) (a : Nat) (bs : List Byte) : (s.storeBytes id a bs).bus = s.bus := State.setMem_bus ..
@[simp] theorem State.storeBytes_reply (id : MemId) (a : Nat) (bs : List Byte) : (s.storeBytes id a bs).reply = s.reply := State.setMem_reply ..
@[simp] theorem State.storeBytes_err (id : MemId) (a : Nat) (bs : List Byte) : (s.storeBytes id a bs).err = s.err := State.setMem_err ..
@[simp] theorem State.storeBytes_det (id : MemId) (a : Nat) (bs : List Byte) : (s.storeBytes id a bs).det = s.det := State.setMem_det ..
@[simp] theorem State.storeBytes_forced (id : MemId) (a : Nat) (bs : List Byte) : (s.storeBytes id a bs).forced = s.forced := State.setMem_forced ..
@[simp] theorem State.storeBytes_w0 (id : MemId) (a : Nat) (bs : List Byte) : (s.storeBytes id a bs).w0 = s.w0 := State.setMem_w0 ..
@[simp] theorem State.storeBytes_h0 (id : MemId) (a : Nat) (bs : List Byte) : (s.storeBytes id a bs).h0 = s.h0 := State.setMem_h0 ..
@[simp] theorem State.storeBytes_w1 (id : MemId) (a : Nat) (bs : List Byte) : (s.storeBytes id a bs).w1 = s.w1 := State.setMem_w1 ..
@[simp] theorem State.storeBytes_h1 (id : MemId) (a : Nat) (bs : List Byte) : (s.storeBytes id a bs).h1 = s.h1 := State.setMem_h1 ..
@[simp] theorem State.storeBytes_alphaLo (id : MemId) (a : Nat) (bs : List Byte) : (s.storeBytes id a bs).alphaLo = s.alphaLo := State.setMem_alphaLo ..
@[simp] theorem State.storeBytes_alphaHi (id : MemId) (a : Nat) (bs : List Byte) : (s.storeBytes id a bs).alphaHi = s.alphaHi := State.setMem_alphaHi ..
@[simp] theorem State.storeBytes_msgLen (id : MemId) (a : Nat) (bs : List Byte) : (s.storeBytes id a bs).msgLen = s.msgLen := State.setMem_msgLen ..
@[simp] theorem State.storeBytes_bitCnt (id : MemId) (a : Nat) (bs : List Byte) : (s.storeBytes id a bs).bitCnt = s.bitCnt := State.setMem_bitCnt ..
@[simp] theorem State.storeBytes_blkY (id : MemId) (a : Nat) (bs : List Byte) : (s.storeBytes id a bs).blkY = s.blkY := State.setMem_blkY ..
@[simp] theorem State.storeBytes_blkX (id : MemId) (a : Nat) (bs : List Byte) : (s.storeBytes id a bs).blkX = s.blkX := State.setMem_blkX ..
@[simp] theorem State.storeBytes_selPos (id : MemId) (a : Nat) (bs : List Byte) : (s.storeBytes id a bs).selPos = s.selPos := State.setMem_selPos ..
@[simp] theorem State.storeBytes_selValLo (id : MemId) (a : Nat) (bs : List Byte) : (s.storeBytes id a bs).selValLo = s.selValLo := State.setMem_selValLo ..
@[simp] theorem State.storeBytes_selValHi (id : MemId) (a : Nat) (bs : List Byte) : (s.storeBytes id a bs).selValHi = s.selValHi := State.setMem_selValHi ..
@[simp] theorem State.storeBytes_fileLen (id : MemId) (a : Nat) (bs : List Byte) : (s.storeBytes id a bs).fileLen = s.fileLen := State.setMem_fileLen ..
@[simp] theorem State.storeBytes_hdrLen (id : MemId) (a : Nat) (bs : List Byte) : (s.storeBytes id a bs).hdrLen = s.hdrLen := State.setMem_hdrLen ..

/-! ### writePix -/

@[simp] theorem State.writePix_params (b : Bank) (ps : List Int) : (s.writePix b ps).params = s.params := State.storeBytes_params ..
@[simp] theorem State.writePix_resets (b : Bank) (ps : List Int) : (s.writePix b ps).resets = s.resets := State.storeBytes_resets ..
@[simp] theorem State.writePix_bus (b : Bank) (ps : List Int) : (s.writePix b ps).bus = s.bus := State.storeBytes_bus ..
@[simp] theorem State.writePix_reply (b : Bank) (ps : List Int) : (s.writePix b ps).reply = s.reply := State.storeBytes_reply ..
@[simp] theorem State.writePix_err (b : Bank) (ps : List Int) : (s.writePix b ps).err = s.err := State.storeBytes_err ..
@[simp] theorem State.writePix_det (b : Bank) (ps : List Int) : (s.writePix b ps).det = s.det := State.storeBytes_det ..
@[simp] theorem State.writePix_forced (b : Bank) (ps : List Int) : (s.writePix b ps).forced = s.forced := State.storeBytes_forced ..
@[simp] theorem State.writePix_w0 (b : Bank) (ps : List Int) : (s.writePix b ps).w0 = s.w0 := State.storeBytes_w0 ..
@[simp] theorem State.writePix_h0 (b : Bank) (ps : List Int) : (s.writePix b ps).h0 = s.h0 := State.storeBytes_h0 ..
@[simp] theorem State.writePix_w1 (b : Bank) (ps : List Int) : (s.writePix b ps).w1 = s.w1 := State.storeBytes_w1 ..
@[simp] theorem State.writePix_h1 (b : Bank) (ps : List Int) : (s.writePix b ps).h1 = s.h1 := State.storeBytes_h1 ..
@[simp] theorem State.writePix_alphaLo (b : Bank) (ps : List Int) : (s.writePix b ps).alphaLo = s.alphaLo := State.storeBytes_alphaLo ..
@[simp] theorem State.writePix_alphaHi (b : Bank) (ps : List Int) : (s.writePix b ps).alphaHi = s.alphaHi := State.storeBytes_alphaHi ..
@[simp] theorem State.writePix_msgLen (b : Bank) (ps : List Int) : (s.writePix b ps).msgLen = s.msgLen := State.storeBytes_msgLen ..
@[simp] theorem State.writePix_bitCnt (b : Bank) (ps : List Int) : (s.writePix b ps).bitCnt = s.bitCnt := State.storeBytes_bitCnt ..
@[simp] theorem State.writePix_blkY (b : Bank) (ps : List Int) : (s.writePix b ps).blkY = s.blkY := State.storeBytes_blkY ..
@[simp] theorem State.writePix_blkX (b : Bank) (ps : List Int) : (s.writePix b ps).blkX = s.blkX := State.storeBytes_blkX ..
@[simp] theorem State.writePix_selPos (b : Bank) (ps : List Int) : (s.writePix b ps).selPos = s.selPos := State.storeBytes_selPos ..
@[simp] theorem State.writePix_selValLo (b : Bank) (ps : List Int) : (s.writePix b ps).selValLo = s.selValLo := State.storeBytes_selValLo ..
@[simp] theorem State.writePix_selValHi (b : Bank) (ps : List Int) : (s.writePix b ps).selValHi = s.selValHi := State.storeBytes_selValHi ..
@[simp] theorem State.writePix_fileLen (b : Bank) (ps : List Int) : (s.writePix b ps).fileLen = s.fileLen := State.storeBytes_fileLen ..
@[simp] theorem State.writePix_hdrLen (b : Bank) (ps : List Int) : (s.writePix b ps).hdrLen = s.hdrLen := State.storeBytes_hdrLen ..

/-! ### writeCoef -/

@[simp] theorem State.writeCoef_params (b : Bank) (cs : List Int) : (s.writeCoef b cs).params = s.params := State.storeBytes_params ..
@[simp] theorem State.writeCoef_resets (b : Bank) (cs : List Int) : (s.writeCoef b cs).resets = s.resets := State.storeBytes_resets ..
@[simp] theorem State.writeCoef_bus (b : Bank) (cs : List Int) : (s.writeCoef b cs).bus = s.bus := State.storeBytes_bus ..
@[simp] theorem State.writeCoef_reply (b : Bank) (cs : List Int) : (s.writeCoef b cs).reply = s.reply := State.storeBytes_reply ..
@[simp] theorem State.writeCoef_err (b : Bank) (cs : List Int) : (s.writeCoef b cs).err = s.err := State.storeBytes_err ..
@[simp] theorem State.writeCoef_det (b : Bank) (cs : List Int) : (s.writeCoef b cs).det = s.det := State.storeBytes_det ..
@[simp] theorem State.writeCoef_forced (b : Bank) (cs : List Int) : (s.writeCoef b cs).forced = s.forced := State.storeBytes_forced ..
@[simp] theorem State.writeCoef_w0 (b : Bank) (cs : List Int) : (s.writeCoef b cs).w0 = s.w0 := State.storeBytes_w0 ..
@[simp] theorem State.writeCoef_h0 (b : Bank) (cs : List Int) : (s.writeCoef b cs).h0 = s.h0 := State.storeBytes_h0 ..
@[simp] theorem State.writeCoef_w1 (b : Bank) (cs : List Int) : (s.writeCoef b cs).w1 = s.w1 := State.storeBytes_w1 ..
@[simp] theorem State.writeCoef_h1 (b : Bank) (cs : List Int) : (s.writeCoef b cs).h1 = s.h1 := State.storeBytes_h1 ..
@[simp] theorem State.writeCoef_alphaLo (b : Bank) (cs : List Int) : (s.writeCoef b cs).alphaLo = s.alphaLo := State.storeBytes_alphaLo ..
@[simp] theorem State.writeCoef_alphaHi (b : Bank) (cs : List Int) : (s.writeCoef b cs).alphaHi = s.alphaHi := State.storeBytes_alphaHi ..
@[simp] theorem State.writeCoef_msgLen (b : Bank) (cs : List Int) : (s.writeCoef b cs).msgLen = s.msgLen := State.storeBytes_msgLen ..
@[simp] theorem State.writeCoef_bitCnt (b : Bank) (cs : List Int) : (s.writeCoef b cs).bitCnt = s.bitCnt := State.storeBytes_bitCnt ..
@[simp] theorem State.writeCoef_blkY (b : Bank) (cs : List Int) : (s.writeCoef b cs).blkY = s.blkY := State.storeBytes_blkY ..
@[simp] theorem State.writeCoef_blkX (b : Bank) (cs : List Int) : (s.writeCoef b cs).blkX = s.blkX := State.storeBytes_blkX ..
@[simp] theorem State.writeCoef_selPos (b : Bank) (cs : List Int) : (s.writeCoef b cs).selPos = s.selPos := State.storeBytes_selPos ..
@[simp] theorem State.writeCoef_selValLo (b : Bank) (cs : List Int) : (s.writeCoef b cs).selValLo = s.selValLo := State.storeBytes_selValLo ..
@[simp] theorem State.writeCoef_selValHi (b : Bank) (cs : List Int) : (s.writeCoef b cs).selValHi = s.selValHi := State.storeBytes_selValHi ..
@[simp] theorem State.writeCoef_fileLen (b : Bank) (cs : List Int) : (s.writeCoef b cs).fileLen = s.fileLen := State.storeBytes_fileLen ..
@[simp] theorem State.writeCoef_hdrLen (b : Bank) (cs : List Int) : (s.writeCoef b cs).hdrLen = s.hdrLen := State.storeBytes_hdrLen ..

@[simp] theorem State.setMem_mem_same (id : MemId) (m : Memory) : (s.setMem id m).mem id = m := by
  cases id <;> rfl

theorem State.setMem_mem_ne {id id' : MemId} (h : id' ≠ id) (m : Memory) :
    (s.setMem id m).mem id' = s.mem id' := by
  cases id <;> cases id' <;> first | rfl | exact absurd rfl h

/-! ### resetRegisters and hardReset -/

@[simp] theorem State.resetRegisters_params : s.resetRegisters.params = s.params := rfl
@[simp] theorem State.resetRegisters_resets : s.resetRegisters.resets = s.resets := rfl
@[simp] theorem State.resetRegisters_bus : s.resetRegisters.bus = s.bus := rfl
@[simp] theorem State.resetRegisters_reply : s.resetRegisters.reply = s.reply := rfl
@[simp] theorem State.resetRegisters_err : s.resetRegisters.err = .ok := rfl
@[simp] theorem State.resetRegisters_det : s.resetRegisters.det = false := rfl
@[simp] theorem State.resetRegisters_forced : s.resetRegisters.forced = false := rfl
@[simp] theorem State.resetRegisters_w0 : s.resetRegisters.w0 = 0 := rfl
@[simp] theorem State.resetRegisters_h0 : s.resetRegisters.h0 = 0 := rfl
@[simp] theorem State.resetRegisters_w1 : s.resetRegisters.w1 = 0 := rfl
@[simp] theorem State.resetRegisters_h1 : s.resetRegisters.h1 = 0 := rfl
@[simp] theorem State.resetRegisters_alphaLo : s.resetRegisters.alphaLo = 0 := rfl
@[simp] theorem State.resetRegisters_alphaHi : s.resetRegisters.alphaHi = 0 := rfl
@[simp] theorem State.resetRegisters_msgLen : s.resetRegisters.msgLen = 0 := rfl
@[simp] theorem State.resetRegisters_bitCnt : s.resetRegisters.bitCnt = 0 := rfl
@[simp] theorem State.resetRegisters_blkY : s.resetRegisters.blkY = 0 := rfl
@[simp] theorem State.resetRegisters_blkX : s.resetRegisters.blkX = 0 := rfl
@[simp] theorem State.resetRegisters_selPos : s.resetRegisters.selPos = 0 := rfl
@[simp] theorem State.resetRegisters_selValLo : s.resetRegisters.selValLo = 0 := rfl
@[simp] theorem State.resetRegisters_selValHi : s.resetRegisters.selValHi = 0 := rfl
@[simp] theorem State.resetRegisters_fileLen : s.resetRegisters.fileLen = 0 := rfl
@[simp] theorem State.resetRegisters_hdrLen : s.resetRegisters.hdrLen = 0 := rfl
@[simp] theorem State.resetRegisters_mem (id : MemId) : s.resetRegisters.mem id = s.mem id := by cases id <;> rfl
@[simp] theorem State.resetRegisters_byteAt (id : MemId) (k : Nat) : s.resetRegisters.byteAt id k = s.byteAt id k := by
  simp [State.byteAt]

@[simp] theorem State.hardReset_params : s.hardReset.params = s.params := rfl
@[simp] theorem State.hardReset_resets : s.hardReset.resets = s.resets + 1 := rfl
@[simp] theorem State.hardReset_bus : s.hardReset.bus = s.bus := rfl
@[simp] theorem State.hardReset_reply : s.hardReset.reply = none := rfl
@[simp] theorem State.hardReset_err : s.hardReset.err = .ok := rfl
@[simp] theorem State.hardReset_det : s.hardReset.det = false := rfl
@[simp] theorem State.hardReset_forced : s.hardReset.forced = false := rfl
@[simp] theorem State.hardReset_w0 : s.hardReset.w0 = 0 := rfl
@[simp] theorem State.hardReset_h0 : s.hardReset.h0 = 0 := rfl
@[simp] theorem State.hardReset_w1 : s.hardReset.w1 = 0 := rfl
@[simp] theorem State.hardReset_h1 : s.hardReset.h1 = 0 := rfl
@[simp] theorem State.hardReset_alphaLo : s.hardReset.alphaLo = 0 := rfl
@[simp] theorem State.hardReset_alphaHi : s.hardReset.alphaHi = 0 := rfl
@[simp] theorem State.hardReset_msgLen : s.hardReset.msgLen = 0 := rfl
@[simp] theorem State.hardReset_bitCnt : s.hardReset.bitCnt = 0 := rfl
@[simp] theorem State.hardReset_blkY : s.hardReset.blkY = 0 := rfl
@[simp] theorem State.hardReset_blkX : s.hardReset.blkX = 0 := rfl
@[simp] theorem State.hardReset_selPos : s.hardReset.selPos = 0 := rfl
@[simp] theorem State.hardReset_selValLo : s.hardReset.selValLo = 0 := rfl
@[simp] theorem State.hardReset_selValHi : s.hardReset.selValHi = 0 := rfl
@[simp] theorem State.hardReset_fileLen : s.hardReset.fileLen = 0 := rfl
@[simp] theorem State.hardReset_hdrLen : s.hardReset.hdrLen = 0 := rfl
@[simp] theorem State.hardReset_mem (id : MemId) : s.hardReset.mem id = [] := by cases id <;> rfl

/-- Taking a fault writes STATUS.ERR and nothing else (60_exceptions.md R203). -/
theorem raiseFault_eq (c : ErrCode) : raiseFault c s = s.setErr c := rfl

end Sys2Proof.Machine
end

