-- ==== Sys2Proof/Laws/Memory.lean ====
section
/-! SUPPORT. What the memory operations do, said once: reading after a store, the canonical form, byte order,
and the same for the memories of a state. -/

namespace Sys2Proof.Machine

/-! ### One memory -/

theorem Memory.fetch_append (m₁ m₂ : Memory) (x : Nat) :
    Memory.fetch (m₁ ++ m₂) x = (Memory.fetch m₁ x).or (Memory.fetch m₂ x) := by
  induction m₁ with
  | nil => rfl
  | cons c m ih =>
    simp only [List.cons_append, Memory.fetch]
    split
    · rfl
    · exact ih

theorem Memory.fetch_filter (p : Nat → Bool) (m : Memory) (x : Nat) :
    Memory.fetch (m.filter fun c => p c.1) x = if p x then Memory.fetch m x else none := by
  induction m with
  | nil => simp [Memory.fetch]
  | cons c m ih =>
    by_cases hx : x = c.1
    · subst hx
      cases hp : p c.1
      · simpa [List.filter_cons, hp] using ih
      · simp [hp, Memory.fetch]
    · cases hp : p c.1 <;> simp [hp, Memory.fetch, hx, ih]

theorem Memory.fetch_cells (a : Nat) (bs : List Byte) (x : Nat) :
    Memory.fetch (Memory.cells a bs) x = if a ≤ x then bs[x - a]? else none := by
  induction bs generalizing a with
  | nil => simp [Memory.cells, Memory.fetch]
  | cons b bs ih =>
    simp only [Memory.cells, Memory.fetch, ih]
    rcases Nat.lt_trichotomy x a with h | h | h
    · have h1 : ¬ a ≤ x := by omega
      have h2 : ¬ a + 1 ≤ x := by omega
      simp [h1, h2, Nat.ne_of_lt h]
    · simp [h]
    · obtain ⟨d, rfl⟩ : ∃ d, x = a + 1 + d := ⟨x - (a + 1), by omega⟩
      have h3 : a + 1 + d - a = d + 1 := by omega
      simp [h3, show a + 1 + d ≠ a by omega, show a ≤ a + 1 + d by omega]

/-- READ AFTER WRITE: inside the stored bytes the stored byte, outside what was there. -/
theorem Memory.fetch_store (m : Memory) (a : Nat) (bs : List Byte) (x : Nat) :
    (m.store a bs).fetch x = if a ≤ x ∧ x < a + bs.length then bs[x - a]? else m.fetch x := by
  have h1 := Memory.fetch_filter (fun y => decide (y < a)) m x
  have h2 := Memory.fetch_filter (fun y => decide (a + bs.length ≤ y)) m x
  simp only [Memory.store, Memory.fetch_append, Memory.fetch_cells]
  simp only [h1, h2]
  by_cases ha : a ≤ x
  · by_cases hb : x < a + bs.length
    · have : x - a < bs.length := by omega
      simp [ha, hb, this, show ¬ x < a by omega]
    · have : bs.length ≤ x - a := by omega
      simp [ha, hb, show ¬ x < a by omega, show a + bs.length ≤ x by omega, this]
  · simp [ha, show x < a by omega, show ¬ a + bs.length ≤ x by omega]

theorem Memory.map_fst_cells (a : Nat) (bs : List Byte) :
    (Memory.cells a bs).map Prod.fst = List.range' a bs.length := by
  induction bs generalizing a with
  | nil => rfl
  | cons b bs ih => simp [Memory.cells, ih, List.range'_succ]

/-- A store keeps the canonical form. -/
theorem Memory.wf_store {m : Memory} (h : m.wf) (a : Nat) (bs : List Byte) : (m.store a bs).wf := by
  have hf : ∀ p : Host.Cell → Bool, ((m.filter p).map Prod.fst).Pairwise (· < ·) := fun p =>
    h.sublist (List.filter_sublist.map _)
  simp only [Memory.wf, Memory.store, List.map_append, Memory.map_fst_cells]
  refine List.pairwise_append.2 ⟨List.pairwise_append.2 ⟨hf _, List.pairwise_lt_range', ?_⟩, hf _, ?_⟩
  · intro x hx y hy
    simp only [List.mem_map, List.mem_filter, decide_eq_true_eq] at hx
    obtain ⟨c, ⟨_, hc⟩, rfl⟩ := hx
    simp only [List.mem_range'_1] at hy
    omega
  · intro x hx y hy
    simp only [List.mem_append, List.mem_map, List.mem_filter, decide_eq_true_eq, List.mem_range'_1] at hx hy
    obtain ⟨c, ⟨_, hc⟩, rfl⟩ := hy
    rcases hx with ⟨d, ⟨_, hd⟩, rfl⟩ | hx <;> omega

/-- A store inside the memory's size keeps every offset inside it. -/
theorem Memory.within_store {m : Memory} {n : Nat} (h : m.within n) (a : Nat) (bs : List Byte)
    (hn : bs = [] ∨ a + bs.length ≤ n) : (m.store a bs).within n := by
  intro c hc
  simp only [Memory.store, List.mem_append, List.mem_filter] at hc
  rcases hc with (⟨hc, _⟩ | hc) | ⟨hc, _⟩
  · exact h c hc
  · have hm : c.1 ∈ (Memory.cells a bs).map Prod.fst := List.mem_map_of_mem hc
    rw [Memory.map_fst_cells, List.mem_range'_1] at hm
    rcases hn with rfl | hn
    · simp at hm
      omega
    · omega
  · exact h c hc

/-! ### Byte order -/

@[simp] theorem length_leBytes (n v : Nat) : (leBytes n v).length = n := by simp [leBytes]

theorem leBytes_succ (n v : Nat) : leBytes (n + 1) v = BitVec.ofNat 8 v :: leBytes n (v / 256) := by
  simp only [leBytes, List.range_succ_eq_map, List.map_cons, List.map_map]
  refine congr (congrArg _ (by simp)) (List.map_congr_left fun k _ => ?_)
  simp only [Function.comp, Nat.succ_eq_add_one]
  rw [Nat.div_div_eq_div_mul, show (256 : Nat) = 2 ^ 8 from rfl, ← Nat.pow_add, Nat.mul_add, Nat.add_comm]

/-- Little-endian bytes and back: the low 8n bits. -/
theorem leValue_leBytes (n v : Nat) : leValue (leBytes n v) = v % 2 ^ (8 * n) := by
  induction n generalizing v with
  | zero => simp [leBytes, leValue, Nat.mod_one]
  | succ n ih =>
    rw [leBytes_succ, leValue, ih, BitVec.toNat_ofNat, Nat.mul_add, Nat.add_comm (8 * n), Nat.pow_add,
      Nat.mod_mul]

theorem leBytes_getElem? (n v k : Nat) :
    (leBytes n v)[k]? = if k < n then some (BitVec.ofNat 8 (v / 2 ^ (8 * k))) else none := by
  by_cases h : k < n <;> simp [leBytes, h]

/-! ### The memories of a state -/

/-- THE READ AFTER A STORE, byte by byte, over all seven memories (20_memory.md R77: no aliasing). -/
theorem State.byteAt_storeBytes (s : State) (id : MemId) (a : Nat) (bs : List Byte) (id' : MemId) (k : Nat) :
    (s.storeBytes id a bs).byteAt id' k =
      if id' = id ∧ a ≤ k ∧ k < a + bs.length then bs.getD (k - a) 0 else s.byteAt id' k := by
  simp only [State.byteAt, State.storeBytes_resets]
  by_cases hid : id' = id
  · subst hid
    simp only [State.storeBytes, State.setMem_mem_same, Memory.fetch_store, true_and]
    split
    · next h =>
      have : k - a < bs.length := by omega
      simp [List.getD, this]
    · rfl
  · simp [State.storeBytes, State.setMem_mem_ne s hid, hid]

theorem State.mem_storeBytes (s : State) (id : MemId) (a : Nat) (bs : List Byte) (id' : MemId) :
    (s.storeBytes id a bs).mem id' = if id' = id then (s.mem id).store a bs else s.mem id' := by
  by_cases hid : id' = id
  · subst hid; simp [State.storeBytes]
  · simp [State.storeBytes, State.setMem_mem_ne s hid, hid]

theorem State.hardReset_byteAt (s : State) (id : MemId) (k : Nat) :
    s.hardReset.byteAt id k = Config.powerUp (s.resets + 1) (memBase id + k) := by
  simp [State.byteAt, Memory.fetch]

/-! ### Pixel and coefficient planes -/

@[simp] theorem length_pixBytes (ps : List Int) : (pixBytes ps).length = ps.length := by simp [pixBytes]

@[simp] theorem length_coefBytes (cs : List Int) : (coefBytes cs).length = 8 * cs.length := by
  induction cs with
  | nil => rfl
  | cons c cs ih =>
    have : coefBytes (c :: cs) = leBytes 8 (BitVec.ofInt 64 c).toNat ++ coefBytes cs := rfl
    simp [this, ih]
    omega

theorem coefBytes_getD (cs : List Int) (i k : Nat) (hk : k < 8) (hi : i < cs.length) :
    (coefBytes cs).getD (8 * i + k) 0 = BitVec.ofNat 8 ((BitVec.ofInt 64 (cs.getD i 0)).toNat / 2 ^ (8 * k)) := by
  induction cs generalizing i with
  | nil => simp at hi
  | cons c cs ih =>
    have hc : coefBytes (c :: cs) = leBytes 8 (BitVec.ofInt 64 c).toNat ++ coefBytes cs := rfl
    rw [hc]
    cases i with
    | zero => simp [List.getD, List.getElem?_append, hk, leBytes]
    | succ i =>
      have h8 : 8 * (i + 1) + k - 8 = 8 * i + k := by omega
      have h : ¬ 8 * (i + 1) + k < 8 := by omega
      have := ih i (by simpa using hi)
      simp only [List.getD, List.getElem?_append, length_leBytes, h, if_false, h8] at this ⊢
      simpa using this

/-- Coefficient `i` after COEFb[0 .. n-1] <- cs. -/
theorem State.coefWord_writeCoef (s : State) (b : Bank) (cs : List Int) (i : Nat) :
    (s.writeCoef b cs).coefWord b i = if i < cs.length then BitVec.ofInt 64 (cs.getD i 0) else s.coefWord b i := by
  have hb : ∀ k, k < 8 → (s.writeCoef b cs).byteAt (coefId b) (8 * i + k) =
      if i < cs.length then BitVec.ofNat 8 ((BitVec.ofInt 64 (cs.getD i 0)).toNat / 2 ^ (8 * k))
      else s.byteAt (coefId b) (8 * i + k) := by
    intro k hk
    rw [State.writeCoef, State.byteAt_storeBytes]
    by_cases hi : i < cs.length
    · rw [if_pos (by simp; omega), if_pos hi, Nat.sub_zero, coefBytes_getD cs i k hk hi]
    · rw [if_neg (by simp; omega), if_neg hi]
  simp only [State.coefWord]
  rw [List.map_congr_left (fun k hk => hb k (List.mem_range.1 hk))]
  by_cases hi : i < cs.length
  · simp only [hi, if_true]
    have := leValue_leBytes 8 (BitVec.ofInt 64 (cs.getD i 0)).toNat
    rw [leBytes] at this
    rw [this, Nat.mod_eq_of_lt (BitVec.isLt _), BitVec.ofNat_toNat, BitVec.setWidth_eq]
  · simp only [hi, if_false]

/-- Pixel `i` after PIXb[0 .. n-1] <- ps. -/
theorem State.byteAt_writePix (s : State) (b : Bank) (ps : List Int) (id : MemId) (k : Nat) :
    (s.writePix b ps).byteAt id k =
      if id = pixId b ∧ k < ps.length then BitVec.ofInt 8 (ps.getD k 0) else s.byteAt id k := by
  rw [State.writePix, State.byteAt_storeBytes]
  by_cases h : id = pixId b ∧ k < ps.length
  · rw [if_pos h, if_pos (by simpa using h)]
    simp [pixBytes, List.getD, h.2]
  · rw [if_neg h, if_neg (by simpa using h)]

theorem State.byteAt_writeCoef_outside (s : State) (b : Bank) (cs : List Int) (id : MemId) (k : Nat)
    (h : ¬ (id = coefId b ∧ k < 8 * cs.length)) : (s.writeCoef b cs).byteAt id k = s.byteAt id k := by
  rw [State.writeCoef, State.byteAt_storeBytes, if_neg (by simpa using h)]

end Sys2Proof.Machine
end

