-- ==== Sys2Proof/Laws/Commands.lean ====
section
/-! SUPPORT. For each meaning, once, everything it can do; and the same for one step. Later proofs take a
command apart with these and never unfold it. -/

namespace Sys2Proof.Machine

variable {s t : State}

theorem execNop_cases (h : execNop s = .next t) : t = s.setErr .ok := by
  cases h; rfl

theorem execSrst_cases (h : execSrst s = .next t) : t = s.resetRegisters := by
  cases h; rfl

theorem execFdct_cases {b : Bank} (h : execFdct b s = .next t) :
    (dimsOK s.params (s.width b) (s.height b) ∧
      t = (s.writeCoef b (s.transformOf b (s.width b) (s.height b))).setErr .ok) ∨
    (¬ dimsOK s.params (s.width b) (s.height b) ∧ t = s.setErr .dimInv) := by
  simp only [execFdct] at h
  split at h <;> cases h
  · next hd => exact .inl ⟨hd, rfl⟩
  · next hd => exact .inr ⟨hd, rfl⟩

theorem execIdct_cases {b : Bank} (h : execIdct b s = .next t) :
    (dimsOK s.params (s.width b) (s.height b) ∧
      t = (s.writePix b (idctPlane (s.coefPlane b (s.width b * s.height b)) (s.width b)
        (s.height b))).setErr .ok) ∨
    (¬ dimsOK s.params (s.width b) (s.height b) ∧ t = s.setErr .dimInv) := by
  simp only [execIdct] at h
  split at h <;> cases h
  · next hd => exact .inl ⟨hd, rfl⟩
  · next hd => exact .inr ⟨hd, rfl⟩

theorem execSel_cases {b : Bank} (h : execSel b s = .next t) :
    (dimsOK s.params (s.width b) (s.height b) ∧ s.blkY.toNat < s.height b / 8 ∧ s.blkX.toNat < s.width b / 8 ∧
      ∃ p, p = select (fun row col => s.coefAt b (blkIdx (s.width b) s.blkY.toNat s.blkX.toNat row col)) ∧
        t = (s.setSelection p.1 p.2
          (s.coefWord b (blkIdx (s.width b) s.blkY.toNat s.blkX.toNat p.1 p.2))).setErr .ok) ∨
    (dimsOK s.params (s.width b) (s.height b) ∧
      (s.height b / 8 ≤ s.blkY.toNat ∨ s.width b / 8 ≤ s.blkX.toNat) ∧ t = s.setErr .blkRng) ∨
    (¬ dimsOK s.params (s.width b) (s.height b) ∧ t = s.setErr .dimInv) := by
  simp only [execSel] at h
  split at h
  · next hd =>
    split at h <;> cases h
    · next hr => exact .inr (.inl ⟨hd, hr, rfl⟩)
    · next hr =>
      rw [not_or, Nat.not_le, Nat.not_le] at hr
      exact .inl ⟨hd, hr.1, hr.2, _, rfl, rfl⟩
  · next hd => cases h; exact .inr (.inr ⟨hd, rfl⟩)

theorem execEmbed_cases (h : execEmbed s = .next t) :
    (dimsOK s.params (s.width .zero) (s.height .zero) ∧
      s.messageOK (min s.msgLen.toNat (capacity (s.width .zero) (s.height .zero))) ∧
      ∃ r, r = s.embedded (s.width .zero) (s.height .zero) ∧
        t = ((((s.writeCoef .zero r.1).writePix .one (idctPlane r.1 (s.width .zero)
          (s.height .zero))).setDims1 s.w0 s.h0).setBitCnt r.2).setErr .ok) ∨
    (dimsOK s.params (s.width .zero) (s.height .zero) ∧
      ¬ s.messageOK (min s.msgLen.toNat (capacity (s.width .zero) (s.height .zero))) ∧ t = s.setErr .msgFmt) ∨
    (¬ dimsOK s.params (s.width .zero) (s.height .zero) ∧ t = s.setErr .dimInv) := by
  simp only [execEmbed] at h
  split at h
  · next hd =>
    split at h <;> cases h
    · next hm => exact .inl ⟨hd, hm, _, rfl, rfl⟩
    · next hm => exact .inr (.inl ⟨hd, hm, rfl⟩)
  · next hd => cases h; exact .inr (.inr ⟨hd, rfl⟩)

theorem execXdiff_cases (h : execXdiff s = .next t) :
    (s.w0 = s.w1 ∧ s.h0 = s.h1 ∧ dimsOK s.params (s.width .zero) (s.height .zero) ∧
      ∃ c0 c1 bits, c0 = s.transformOf .zero (s.width .zero) (s.height .zero) ∧
        c1 = s.transformOf .one (s.width .zero) (s.height .zero) ∧
        bits = diffScan (s.width .zero) s.diffLimit c0 c1 (rasterBlocks (s.width .zero) (s.height .zero)) 0 ∧
        t = ((((s.writeCoef .zero c0).writeCoef .one c1).storeBytes .msgOut 0 bits).setBitCnt
          bits.length).setErr (if bits.length = 0 ∧ 0 < s.diffLimit then .ident else .ok)) ∨
    ((s.w0 ≠ s.w1 ∨ s.h0 ≠ s.h1) ∧ t = s.setErr .dimMis) ∨
    (s.w0 = s.w1 ∧ s.h0 = s.h1 ∧ ¬ dimsOK s.params (s.width .zero) (s.height .zero) ∧
      t = s.setErr .dimInv) := by
  simp only [execXdiff] at h
  split at h
  · next hm => cases h; exact .inr (.inl ⟨hm, rfl⟩)
  · next hm =>
    rw [not_or, not_not, not_not] at hm
    split at h <;> cases h
    · next hd => exact .inl ⟨hm.1, hm.2, hd, _, _, _, rfl, rfl, rfl, rfl⟩
    · next hd => exact .inr (.inr ⟨hm.1, hm.2, hd, rfl⟩)

theorem execXself_cases {b : Bank} (h : execXself b s = .next t) :
    (dimsOK s.params (s.width b) (s.height b) ∧
      ∃ c bits, c = s.transformOf b (s.width b) (s.height b) ∧
        bits = selfScan (s.width b) s.msgLen.toNat c (rasterBlocks (s.width b) (s.height b)) 0 ∧
        t = (((s.writeCoef b c).storeBytes .msgOut 0 bits).setBitCnt bits.length).setErr .ok) ∨
    (¬ dimsOK s.params (s.width b) (s.height b) ∧ t = s.setErr .dimInv) := by
  simp only [execXself] at h
  split at h <;> cases h
  · next hd => exact .inl ⟨hd, _, _, rfl, rfl, rfl⟩
  · next hd => exact .inr ⟨hd, rfl⟩

theorem execMpatch_cases (h : execMpatch s = .next t) :
    (s.fileOK ∧ t = (s.storeBytes .file 6 (leBytes 4 s.hdrLen.toNat)).setErr .ok) ∨
    (¬ s.fileOK ∧ t = s.setErr .fileRng) := by
  simp only [execMpatch] at h
  split at h <;> cases h
  · next hf => exact .inl ⟨hf, rfl⟩
  · next hf => exact .inr ⟨hf, rfl⟩

theorem execMdetect_cases (h : execMdetect s = .next t) :
    (s.fileOK ∧ t = (s.setDet (!(s.headerBytes.all fun b => b == 0))).setErr .ok) ∨
    (¬ s.fileOK ∧ t = s.setErr .fileRng) := by
  simp only [execMdetect] at h
  split at h <;> cases h
  · next hf => exact .inl ⟨hf, rfl⟩
  · next hf => exact .inr ⟨hf, rfl⟩

theorem execMread_cases (h : execMread s = .next t) :
    (s.fileOK ∧ t = (s.setHdrLen s.headerValue).setErr .ok) ∨ (¬ s.fileOK ∧ t = s.setErr .fileRng) := by
  simp only [execMread] at h
  split at h <;> cases h
  · next hf => exact .inl ⟨hf, rfl⟩
  · next hf => exact .inr ⟨hf, rfl⟩

/-! ### The scans -/

@[simp] theorem length_embedBlock (w : Nat) (alpha : Int) (m : Byte) (co : List Int) (blk : Nat × Nat) :
    (embedBlock w alpha m co blk).length = co.length := by simp [embedBlock]

/-- EMBED's loop keeps the shape of the plane. -/
theorem length_embedScan (w n : Nat) (msg : Nat → Byte) (alpha : Int) (blks : List (Nat × Nat))
    (co : List Int) (cnt : Nat) : (embedScan w n msg alpha blks co cnt).1.length = co.length := by
  induction blks generalizing co cnt with
  | nil => rfl
  | cons blk rest ih =>
    simp only [embedScan]
    split <;> simp [ih]

/-- EMBED's scan looks at a message byte only below MSGLEN and below the number of blocks (R150, R209). -/
theorem embedScan_congr (w n : Nat) (f g : Nat → Byte) (alpha : Int) (blks : List (Nat × Nat)) (co : List Int)
    (cnt : Nat) (h : ∀ k < n, k < cnt + blks.length → f k = g k) :
    embedScan w n f alpha blks co cnt = embedScan w n g alpha blks co cnt := by
  induction blks generalizing co cnt with
  | nil => rfl
  | cons b r ih =>
    rw [List.length_cons] at h
    simp only [embedScan]
    split
    · next hc =>
      rw [h cnt hc (by omega)]
      exact ih _ _ fun k h₁ h₂ => h k h₁ (by omega)
    · exact ih _ _ fun k h₁ h₂ => h k h₁ (by omega)

/-- EMBED's loop counts at most one bit a block. -/
theorem embedScan_count_le (w n : Nat) (msg : Nat → Byte) (alpha : Int) (blks : List (Nat × Nat))
    (co : List Int) (cnt : Nat) : (embedScan w n msg alpha blks co cnt).2 ≤ cnt + blks.length := by
  induction blks generalizing co cnt with
  | nil => simp [embedScan]
  | cons blk rest ih =>
    simp only [embedScan, List.length_cons]
    split
    · exact (ih _ _).trans (by omega)
    · exact (ih _ _).trans (by omega)

/-- XDIFF decodes at most one bit a block. -/
theorem length_diffScan_le (w limit : Nat) (c0 c1 : List Int) (blks : List (Nat × Nat)) (cnt : Nat) :
    (diffScan w limit c0 c1 blks cnt).length ≤ blks.length := by
  induction blks generalizing cnt with
  | nil => simp [diffScan]
  | cons blk rest ih =>
    simp only [diffScan]
    split
    · simp
    · split
      · simpa using ih (cnt + 1)
      · exact (ih cnt).trans (by simp)

/-- XSELF decodes at most one bit a block. -/
theorem length_selfScan_le (w n : Nat) (c : List Int) (blks : List (Nat × Nat)) (cnt : Nat) :
    (selfScan w n c blks cnt).length ≤ blks.length := by
  induction blks generalizing cnt with
  | nil => simp [selfScan]
  | cons blk rest ih =>
    simp only [selfScan]
    split
    · simp
    · simpa using ih (cnt + 1)

/-! ### One step -/

/-- Everything one step can do: idle; an event that is over at once; a command word, legal or not. -/
theorem step_cases (h : step s = .next t) :
    (s.bus = [] ∧ t = s) ∨
    (∃ e rest, s.bus = e :: rest ∧ busEffect e (s.setBus rest) = .done t) ∨
    (∃ e rest c u, s.bus = e :: rest ∧ busEffect e (s.setBus rest) = .command c u ∧
      ((∃ i, decode c = .ok i ∧ exec i u = .next t) ∨ (∃ d, decode c = .error d ∧ t = u.setErr .illCmd))) := by
  simp only [step] at h
  split at h
  · next hb => cases h; exact .inl ⟨hb, rfl⟩
  · next e rest hb =>
    split at h
    · next u hu => cases h; exact .inr (.inl ⟨e, rest, hb, hu⟩)
    · next c u hu =>
      refine .inr (.inr ⟨e, rest, c, u, hb, hu, ?_⟩)
      simp only [runCommand] at h
      split at h
      · next i hi => exact .inl ⟨i, hi, h⟩
      · next d hd => cases h; exact .inr ⟨d, hd, rfl⟩

/-- The one event that hands a word to the step is an admitted write of CMD. -/
theorem busEffect_command {e : BusEvent} {c : Word} {u : State} (h : busEffect e s = .command c u) :
    ∃ addr size, e = .write addr size c ∧ busTarget s.params addr size = some (.register .cmd) ∧
      u = s.answer .written := by
  cases e with
  | read addr size => simp only [busEffect] at h; split at h <;> cases h
  | reset => simp [busEffect] at h
  | write addr size v =>
    simp only [busEffect] at h
    split at h
    · next ht => cases h; exact ⟨addr, size, rfl, ht, rfl⟩
    · cases h
    · cases h

/-- Everything an event that is over at once can have done. -/
theorem busEffect_done {e : BusEvent} (h : busEffect e s = .done t) :
    (∃ addr size tg, e = .read addr size ∧ busTarget s.params addr size = some tg ∧
      t = s.answer (.data (readTarget s tg))) ∨
    (∃ addr size v tg, e = .write addr size v ∧ busTarget s.params addr size = some tg ∧
      tg ≠ .register .cmd ∧ t = (writeTarget s v tg).answer .written) ∨
    ((∃ addr size, (e = .read addr size ∨ ∃ v, e = .write addr size v) ∧
      busTarget s.params addr size = none) ∧ t = s.answer .busError) ∨
    (e = .reset ∧ t = s.hardReset) := by
  cases e with
  | read addr size =>
    simp only [busEffect] at h
    split at h <;> cases h
    · next tg ht => exact .inl ⟨addr, size, tg, rfl, ht, rfl⟩
    · next ht => exact .inr (.inr (.inl ⟨⟨addr, size, .inl rfl, ht⟩, rfl⟩))
  | reset => cases h; exact .inr (.inr (.inr ⟨rfl, rfl⟩))
  | write addr size v =>
    simp only [busEffect] at h
    split at h
    · cases h
    · next tg hne ht => cases h; exact .inr (.inl ⟨addr, size, v, tg, rfl, ht, hne, rfl⟩)
    · next ht => cases h; exact .inr (.inr (.inl ⟨⟨addr, size, .inr ⟨v, rfl⟩, ht⟩, rfl⟩))

end Sys2Proof.Machine
end

