-- ==== Sys2Proof/Laws/Bus.lean ====
section
/-! SUPPORT. What an admitted access reaches, said once. -/

namespace Sys2Proof.Machine

theorem byteTarget_eq_some {p : Config.Params} {id : MemId} {size off : Nat} {tg : BusTarget}
    (h : byteTarget p id size off = some tg) : tg = .byte id off ∧ size = 1 ∧ off < memSize p id := by
  simp only [byteTarget] at h
  split at h
  · next hc => cases h; exact ⟨rfl, hc⟩
  · cases h

theorem halfTarget_eq_some {p : Config.Params} {b : Bank} {size off : Nat} {tg : BusTarget}
    (h : halfTarget p b size off = some tg) :
    tg = .half b off ∧ size = 4 ∧ off % 4 = 0 ∧ off < memSize p (coefId b) := by
  simp only [halfTarget] at h
  split at h
  · next hc => cases h; exact ⟨rfl, hc⟩
  · cases h

theorem registerTarget_eq_some {size off : Nat} {tg : BusTarget} (h : registerTarget size off = some tg) :
    ∃ r, tg = .register r ∧ size = 4 ∧ off % 4 = 0 ∧ registers[off / 4]? = some r := by
  simp only [registerTarget] at h
  split at h
  · next hc =>
    obtain ⟨r, hr, rfl⟩ := Option.map_eq_some_iff.1 h
    exact ⟨r, rfl, hc.1, hc.2, hr⟩
  · cases h

/-- Everything an admitted access can reach: a register, one byte inside a byte memory, or one aligned half
inside a coefficient memory. -/
theorem busTarget_cases {p : Config.Params} {addr : Word} {size : Nat} {tg : BusTarget}
    (h : busTarget p addr size = some tg) :
    (∃ r, tg = .register r ∧ size = 4) ∨
    (∃ id off, tg = .byte id off ∧ id ∈ byteMemories ∧ size = 1 ∧ off < memSize p id) ∨
    (∃ b off, tg = .half b off ∧ size = 4 ∧ off % 4 = 0 ∧ off < 8 * p.maxPix) := by
  have hbyte : ∀ id ∈ byteMemories, byteTarget p id size (addrOffset addr) = some tg →
      ∃ id off, tg = .byte id off ∧ id ∈ byteMemories ∧ size = 1 ∧ off < memSize p id := fun id hid hb => by
    obtain ⟨rfl, hs, ho⟩ := byteTarget_eq_some hb
    exact ⟨id, _, rfl, hid, hs, ho⟩
  have hhalf : ∀ b, halfTarget p b size (addrOffset addr) = some tg →
      ∃ b off, tg = .half b off ∧ size = 4 ∧ off % 4 = 0 ∧ off < 8 * p.maxPix := fun b hb => by
    obtain ⟨rfl, hs, h4, ho⟩ := halfTarget_eq_some hb
    exact ⟨b, _, rfl, hs, h4, by cases b <;> exact ho⟩
  simp only [busTarget] at h
  split at h
  · obtain ⟨r, rfl, hs, _⟩ := registerTarget_eq_some h
    exact .inl ⟨r, rfl, hs⟩
  · exact .inr (.inl (hbyte _ (by decide) h))
  · exact .inr (.inl (hbyte _ (by decide) h))
  · exact .inr (.inr (hhalf _ h))
  · exact .inr (.inr (hhalf _ h))
  · exact .inr (.inl (hbyte _ (by decide) h))
  · exact .inr (.inl (hbyte _ (by decide) h))
  · exact .inr (.inl (hbyte _ (by decide) h))
  · cases h

/-- A register's number and its place in the register map agree. -/
theorem registers_regNumber (r : Reg) : registers[regNumber r]? = some r := by cases r <;> rfl

theorem regNumber_of_registers {n : Nat} {r : Reg} (h : registers[n]? = some r) : regNumber r = n := by
  have hn : n < 19 := (List.getElem?_eq_some_iff.1 h).1
  interval_cases n <;> cases h <;> rfl

end Sys2Proof.Machine
end

