-- ==== Sys2Proof/Laws/PerInstr.lean ====
section
/-! SUPPORT. Statements made per command: decoding the encoding of a well-formed command gives it back. -/

namespace Sys2Proof.Laws

/-- The encoder's word of a well-formed command decodes to that command. -/
def RoundTrip.Statement (i : Instr) : Prop := i.wellFormed = true → decode (encode i) = .ok i

theorem RoundTrip.nop : RoundTrip.Statement .nop := fun _ => rfl
theorem RoundTrip.srst : RoundTrip.Statement .srst := fun _ => rfl
theorem RoundTrip.fdct (b : Bank) : RoundTrip.Statement (.fdct b) := fun _ => by cases b <;> rfl
theorem RoundTrip.idct (b : Bank) : RoundTrip.Statement (.idct b) := fun _ => by cases b <;> rfl
theorem RoundTrip.sel (b : Bank) : RoundTrip.Statement (.sel b) := fun _ => by cases b <;> rfl
theorem RoundTrip.embed : RoundTrip.Statement .embed := fun _ => rfl
theorem RoundTrip.xdiff : RoundTrip.Statement .xdiff := fun _ => rfl
theorem RoundTrip.xself (b : Bank) : RoundTrip.Statement (.xself b) := fun _ => by cases b <;> rfl
theorem RoundTrip.mpatch : RoundTrip.Statement .mpatch := fun _ => rfl
theorem RoundTrip.mdetect : RoundTrip.Statement .mdetect := fun _ => rfl
theorem RoundTrip.mread : RoundTrip.Statement .mread := fun _ => rfl

end Sys2Proof.Laws
end

