-- ==== Sys2Proof/Machine/Script.lean ====
section
/-! DEFINITION. Host scripts: the bus accesses of a script line (30_encoding.md R95) and of the interface
functions that are host sequences (R96 to R104). Nothing here is part of the engine: it is what a host puts in
`State.bus`. -/

namespace Sys2Proof.Machine

/-- `WR NAME, v` (R95). -/
def scriptWr (r : Reg) (v : Word) : BusEvent := .write (BitVec.ofNat 32 (4 * regNumber r)) 4 v

/-- `RD NAME` (R95). -/
def scriptRd (r : Reg) : BusEvent := .read (BitVec.ofNat 32 (4 * regNumber r)) 4

/-- `WRB MEM[i], v` (R95). -/
def scriptWrb (id : MemId) (i : Nat) (v : Byte) : BusEvent :=
  .write (BitVec.ofNat 32 (memBase id + i)) 1 (v.setWidth 32)

/-- `RDB MEM[i]` (R95). -/
def scriptRdb (id : MemId) (i : Nat) : BusEvent := .read (BitVec.ofNat 32 (memBase id + i)) 1

/-- `WRC COEFb[i], v`: the low half, then the high half (R95). -/
def scriptWrc (b : Bank) (i : Nat) (v : CoefWord) : List BusEvent :=
  [ .write (BitVec.ofNat 32 (memBase (coefId b) + 8 * i)) 4 (v.extractLsb' 0 32),
    .write (BitVec.ofNat 32 (memBase (coefId b) + 8 * i + 4)) 4 (v.extractLsb' 32 32) ]

/-- `RDC COEFb[i]` (R95). -/
def scriptRdc (b : Bank) (i : Nat) : List BusEvent :=
  [ .read (BitVec.ofNat 32 (memBase (coefId b) + 8 * i)) 4,
    .read (BitVec.ofNat 32 (memBase (coefId b) + 8 * i + 4)) 4 ]

/-- A mnemonic alone, or `CMD word` with the word of a command (R95). -/
def scriptCmd (i : Instr) : BusEvent := .write 0 4 (encode i)

/-- Wb (R91) as a register name. -/
def widthName : Bank → Reg
  | .zero => .w0
  | .one => .w1

/-- Hb (R91) as a register name. -/
def heightName : Bank → Reg
  | .zero => .h0
  | .one => .h1

/-- Load bytes into a byte memory from element 0 (R96 "load"). -/
def scriptLoad (id : MemId) (bs : List Byte) : List BusEvent := bs.zipIdx.map fun p => scriptWrb id p.2 p.1

/-- Read back the first `n` bytes of a byte memory (R96 "read back"). -/
def scriptReadBack (id : MemId) (n : Nat) : List BusEvent := (List.range n).map (scriptRdb id)

/-- Load a pixel plane and its dimensions into a bank. -/
def scriptLoadPlane (b : Bank) (plane : List Byte) (w h : Word) : List BusEvent :=
  scriptLoad (pixId b) plane ++ [scriptWr (widthName b) w, scriptWr (heightName b) h]

/-- `transform(plane)` (R97). -/
def scriptTransform (b : Bank) (plane : List Byte) (w h : Word) : List BusEvent :=
  scriptLoadPlane b plane w h ++ [scriptCmd (.fdct b), scriptRd .status] ++
    (List.range (w.toNat * h.toNat)).flatMap (scriptRdc b)

/-- `inverse_transform(coefficient plane)` (R98). -/
def scriptInverse (b : Bank) (coefs : List CoefWord) (w h : Word) : List BusEvent :=
  coefs.zipIdx.flatMap (fun p => scriptWrc b p.2 p.1) ++
    [scriptWr (widthName b) w, scriptWr (heightName b) h, scriptCmd (.idct b), scriptRd .status] ++
    scriptReadBack (pixId b) (w.toNat * h.toNat)

/-- `Embed(image, message_bits, alpha)` for one channel plane (R99); `maxMsg` is MAXMSG. -/
def scriptEmbed (maxMsg : Nat) (plane : List Byte) (w h : Word) (message : List Byte) (alpha : CoefWord) :
    List BusEvent :=
  scriptLoadPlane .zero plane w h ++ scriptLoad .msgIn (message.take maxMsg) ++
    [ scriptWr .msgLen (BitVec.ofNat 32 message.length), scriptWr .alphaLo (alpha.extractLsb' 0 32),
      scriptWr .alphaHi (alpha.extractLsb' 32 32), scriptCmd .embed, scriptRd .status, scriptRd .bitCnt ] ++
    scriptReadBack .pix1 (w.toNat * h.toNat)

/-- `ExtractDifferential(source_image, target_image, message_len)` up to the reading of STATUS and BITCNT, in
forced mode or not (R100). -/
def scriptExtractDifferential (source target : List Byte) (w0 h0 w1 h1 messageLen : Word) (forced : Bool) :
    List BusEvent :=
  scriptLoadPlane .zero source w0 h0 ++ scriptLoadPlane .one target w1 h1 ++
    [ scriptWr .msgLen messageLen, scriptWr .ctrl (if forced then 1 else 0), scriptCmd .xdiff,
      scriptRd .status, scriptRd .bitCnt ]

/-- `ExtractSelfContained(image, message_len)` up to the reading of BITCNT (R101). -/
def scriptExtractSelf (b : Bank) (plane : List Byte) (w h messageLen : Word) : List BusEvent :=
  scriptLoadPlane b plane w h ++
    [scriptWr .msgLen messageLen, scriptCmd (.xself b), scriptRd .status, scriptRd .bitCnt]

/-- `PatchHeaderLength(file_bytes, length)` (R102). -/
def scriptPatchHeader (fileBytes : List Byte) (length : Word) : List BusEvent :=
  scriptLoad .file fileBytes ++
    [ scriptWr .fileLen (BitVec.ofNat 32 fileBytes.length), scriptWr .hdrLen length, scriptCmd .mpatch,
      scriptRd .status ] ++ scriptReadBack .file fileBytes.length

/-- `DetectEmbedding(file_bytes)`: the result is STATUS.DET (R103). -/
def scriptDetect (fileBytes : List Byte) : List BusEvent :=
  scriptLoad .file fileBytes ++
    [scriptWr .fileLen (BitVec.ofNat 32 fileBytes.length), scriptCmd .mdetect, scriptRd .status]

/-- `ReadHeaderLength(file_bytes)`: the result is HDRLEN (R104). -/
def scriptReadHeader (fileBytes : List Byte) : List BusEvent :=
  scriptLoad .file fileBytes ++
    [ scriptWr .fileLen (BitVec.ofNat 32 fileBytes.length), scriptCmd .mread, scriptRd .status,
      scriptRd .hdrLen ]

end Sys2Proof.Machine
end

