-- ==== Sys2Proof/Tests/Slice0.lean ====
section
/-! SUPPORT. Tests of the model on the vectors of 95_test_vectors.md, and for every statement with hypotheses a
state and operands that meet them all. -/

namespace Sys2Proof.Tests

open Sys2Proof Sys2Proof.Machine

/-! ### Helpers -/

/-- A command or step answers a next state of which `p` holds. -/
def gives (r : Result) (p : State → Bool) : Bool :=
  match r with
  | .next t => p t
  | .fault _ => false
  | .refused _ => false

/-- The ramp block of V4. -/
def ramp : List Byte := (List.range 64).map fun n => BitVec.ofNat 8 n

/-- The gray block of E1. -/
def gray : List Byte := List.replicate 64 128

/-- PIX1 of V17, bit 0: the rows of the ramp, the last four one lower. -/
def rampBit0 : List Byte := (List.range 64).map fun n => BitVec.ofNat 8 (if n < 32 then n else n - 1)

/-- Two 8x8 planes, a message, alpha 4.0, and a FILE of ten bytes with the given header field. -/
def bench (p0 p1 msg hdr : List Byte) : State :=
  { State.reset with
    w0 := 8, h0 := 8, w1 := 8, h1 := 8
    msgLen := BitVec.ofNat 32 msg.length
    alphaHi := 4
    fileLen := 10
    hdrLen := 0x12345678
    pix0 := Memory.cells 0 p0
    pix1 := Memory.cells 0 p1
    msgIn := Memory.cells 0 msg
    file := Memory.cells 6 hdr }

/-- COEF1 holding the given words from element 0. -/
def coefBench (cs : List Int) : State := ({ State.reset with w1 := 8, h1 := 8 }).writeCoef .one cs

/-- A block that is zero but for the listed elements. -/
def sparse (es : List (Nat × Int)) : List Int :=
  (List.range 64).map fun n => ((es.find? fun e => e.1 == n).map Prod.snd).getD 0

/-- The reset state with one access coming. -/
def facing (e : BusEvent) : State := { State.reset with bus := [e] }

/-- The working state of most witnesses. -/
def work : State := bench ramp ramp [0] [0xAA, 0xBB, 0xCC, 0xDD]

/-- The impulse block of V3. -/
def impulse (i j : Nat) : Int := if i = 0 ∧ j = 0 then 255 else 0

/-! ### Well-formedness: each check refuses an ill-formed term -/

theorem test_wf_write_data_too_wide : (BusEvent.write 0x10000000 1 0x100).wellFormed = false := by decide
theorem test_wf_write_data_fits : (BusEvent.write 0x10000000 1 0xFF).wellFormed = true := by decide
theorem test_wf_write_no_bytes : (BusEvent.write 0x10000000 0 1).wellFormed = false := by decide
theorem test_wf_maxPix_not_blocks : (Config.Params.mk 100 16).wellFormed = false := by decide
theorem test_wf_maxPix_too_small : (Config.Params.mk 0 16).wellFormed = false := by decide
theorem test_wf_maxPix_too_large : (Config.Params.mk (2 ^ 25 + 64) 16).wellFormed = false := by decide
theorem test_wf_maxFile_too_small : (Config.Params.mk 64 9).wellFormed = false := by decide
theorem test_wf_maxFile_too_large : (Config.Params.mk 64 (2 ^ 28 + 1)).wellFormed = false := by decide
theorem test_wf_params_limits : (Config.Params.mk (2 ^ 25) (2 ^ 28)).wellFormed = true := by decide
theorem test_wf_commands : (Instr.xself .one).wellFormed = true ∧ Instr.embed.wellFormed = true := by decide

/-! ### Decoding: words written out bit by bit from 30_encoding.md section 3 and V26 -/

theorem test_decode_nop : decode 0b00000000000000000000000000000000 = .ok .nop := by decide
theorem test_decode_srst : decode 0b00000000000000000000000000000001 = .ok .srst := by decide
theorem test_decode_fdct : decode 0b00000000000000000000000000010000 = .ok (.fdct .zero) ∧
    decode 0b00000000000000000000000100010000 = .ok (.fdct .one) := by decide
theorem test_decode_idct : decode 0b00000000000000000000000000010001 = .ok (.idct .zero) ∧
    decode 0b00000000000000000000000100010001 = .ok (.idct .one) := by decide
theorem test_decode_sel : decode 0b00000000000000000000000000010010 = .ok (.sel .zero) ∧
    decode 0b00000000000000000000000100010010 = .ok (.sel .one) := by decide
theorem test_decode_embed : decode 0b00000000000000000000000000100000 = .ok .embed := by decide
theorem test_decode_xdiff : decode 0b00000000000000000000000000110000 = .ok .xdiff := by decide
theorem test_decode_xself : decode 0b00000000000000000000000000110001 = .ok (.xself .zero) ∧
    decode 0b00000000000000000000000100110001 = .ok (.xself .one) := by decide
theorem test_decode_mpatch : decode 0b00000000000000000000000001000000 = .ok .mpatch := by decide
theorem test_decode_mdetect : decode 0b00000000000000000000000001000001 = .ok .mdetect := by decide
theorem test_decode_mread : decode 0b00000000000000000000000001000010 = .ok .mread := by decide
theorem test_decode_unknown_op :
    ([0x02, 0x0F, 0x13, 0x21, 0x32, 0x43, 0xFF] : List Word).all
      (fun c => decide (decode c = .error (.unknownOp (c.extractLsb' 0 8)))) = true := by decide
theorem test_decode_stray_bank :
    ([0x100, 0x101, 0x120, 0x130, 0x140, 0x141, 0x142] : List Word).all
      (fun c => decide (decode c = .error .strayBank)) = true := by decide
theorem test_decode_reserved_bits :
    ([0x210, 0x10010, 0x80000000, 0xFFFFFFFF] : List Word).all
      (fun c => decide (decode c = .error .reservedBits)) = true := by decide
theorem test_decodeTableWord : decodeTableWord 32 0x131 = some (.xself .one) ∧
    decodeTableWord 32 0x120 = none := by decide
theorem test_assembler : (Instr.fdct .one).assembler = "FDCT 1" ∧ Instr.mread.assembler = "MREAD" := by decide

/-! ### The bus: V27 -/

theorem test_read_id : gives (step (facing (.read 0x48 4))) (fun t => t.reply == some (.data 0x00081E20)) = true := by
  decide
theorem test_read_cmd : gives (step (facing (.read 0 4))) (fun t => t.reply == some (.data 0)) = true := by decide
theorem test_write_ctrl : gives (step (facing (.write 8 4 0xFFFFFFFF)))
    (fun t => readReg t .ctrl == 1 && t.reply == some .written) = true := by decide
theorem test_write_status_ignored : gives (step (facing (.write 4 4 0xFF)))
    (fun t => readReg t .status == 0 && t.reply == some .written) = true := by decide
theorem test_bus_errors : ([.read 0x4C 4, .read 2 4, .read 4 1, .read 4 2, .write 0x10000080 1 0,
      .write 0x10000000 4 0, .read 0x30000400 4, .read 0x30000001 1, .write 0x50000002 1 0, .read 0x70000010 1,
      .read 0x80000000 4, .write 0xF0000000 1 0] : List BusEvent).all
    (fun e => gives (step (facing e)) fun t => t.reply == some .busError) = true := by decide
theorem test_write_pixel : gives (step (facing (.write 0x1000007F 1 0xAB))) (fun t => t.byteAt .pix0 127 == 0xAB)
    = true := by decide
theorem test_write_coef_high_half :
    gives (step { (State.reset.writeCoef .zero [5]) with bus := [.write 0x30000004 4 0xFFFFFFFF] })
      (fun t => t.coefAt .zero 0 == -4294967291) = true := by decide
theorem test_read_coef_high_half :
    gives (step { (State.reset.writeCoef .one [-2147483648]) with bus := [.read 0x40000004 4] })
      (fun t => t.reply == some (.data 0xFFFFFFFF)) = true := by decide
theorem test_illegal_word : gives (step (facing (.write 0 4 0x120)))
    (fun t => readReg t .status == 1 && t.reply == some .written) = true := by decide
theorem test_withFetchWord : gives (step (State.reset.withFetchWord 32 0x20))
    (fun t => t.err == .ok && t.bus == []) = true := by decide

/-! ### System commands: V26 -/

theorem test_nop_keeps_det : gives (exec .nop { State.reset with err := .msgFmt, det := true })
    (fun t => readReg t .status == 0x100) = true := by decide
theorem test_srst_keeps_memory : gives (exec .srst { work with det := true })
    (fun t => readReg t .status == 0 && readReg t .w0 == 0 && t.byteAt .pix0 63 == 63) = true := by decide

/-! ### Transform: V3, V4, V7, V2 -/

theorem test_fdctBlock_impulse : fdctBlock impulse 7 7 = 10421050504 := by decide +kernel
theorem test_fdct_ramp : gives (exec (.fdct .zero) work) (fun t => t.coefAt .zero 8 == -626090823653) = true := by
  decide +kernel
theorem test_fdct_bad_dims : gives (exec (.fdct .one) { work with w1 := 12 }) (fun t => t.err == .dimInv) = true := by
  decide
theorem test_idct_rows : gives (exec (.idct .one) (coefBench (sparse [(0, 4398046511104), (8, 34359738368)])))
    (fun t => t.byteAt .pix1 8 == 129) = true := by decide +kernel
theorem test_idct_truncates : idctBlock (fun k l => if k = 0 ∧ l = 0 then 34359738367 else 0) 0 0 = 0 := by
  decide +kernel

/-! ### Selector: V12 -/

theorem test_sel_later_tie_wins :
    gives (exec (.sel .one) (coefBench (sparse [(1, 3), (2, -4), (49, 4), (63, 2)])))
      (fun t => readReg t .selPos == 0x31 && t.selValHi ++ t.selValLo == (4 : CoefWord)) = true := by decide +kernel
theorem test_select_min_word :
    select (fun r c => if (r, c) = (0, 1) then -2 ^ 63 else if (r, c) = (7, 7) then 2 ^ 63 - 1 else 0) = (0, 1) := by
  decide +kernel

/-! ### Embedder: V17, V19, V21 -/

theorem test_embed_ramp_bit0 : gives (exec .embed work)
    (fun t => t.coefAt .zero 8 == -608910954469 && t.bitCnt == 1 && t.w1 == 8) = true := by decide +kernel
theorem test_embed_message_bytes : gives (exec .embed (bench ramp ramp [2] [])) (fun t => t.err == .msgFmt) = true ∧
    gives (exec .embed (bench ramp ramp [1, 0xFF] [])) (fun t => t.err == .ok && t.bitCnt == 1) = true := by
  decide +kernel
theorem test_perturb_saturates : perturb (-626090823653) 1 (2 ^ 63 - 1) = -2 ^ 63 ∧
    perturb (-626090823653) 1 (-2 ^ 63) = 9223371410763952155 := by decide

/-! ### Extractor: V17, V23, V25 -/

theorem test_xdiff_ramp_bit0 : gives (exec .xdiff (bench ramp rampBit0 [0] []))
    (fun t => t.bitCnt == 1 && t.byteAt .msgOut 0 == 0 && t.err == .ok) = true := by decide +kernel
theorem test_xdiff_mismatch_first : gives (exec .xdiff { work with w0 := 12, w1 := 20 })
    (fun t => t.err == .dimMis) = true := by decide
theorem test_xself_signs : gives (exec (.xself .zero) work) (fun t => t.byteAt .msgOut 0 == 1 && t.bitCnt == 1) = true ∧
    gives (exec (.xself .one) (bench ramp gray [0] [])) (fun t => t.byteAt .msgOut 0 == 0) = true := by
  decide +kernel
theorem test_xself_limit_zero : gives (exec (.xself .zero) { work with msgLen := 0 })
    (fun t => t.bitCnt == 0 && t.err == .ok) = true := by decide +kernel

/-! ### Metadata: V16 -/

theorem test_mpatch : gives (exec .mpatch work) (fun t => t.byteAt .file 6 == 0x78 && t.byteAt .file 7 == 0x56 &&
    t.byteAt .file 8 == 0x34 && t.byteAt .file 9 == 0x12) = true := by decide
theorem test_mpatch_short_file : gives (exec .mpatch { work with fileLen := 9 })
    (fun t => t.err == .fileRng && t.byteAt .file 6 == 0xAA) = true := by decide
theorem test_mdetect_zero : gives (exec .mdetect { bench [] [] [] [0, 0, 0, 0] with det := true })
    (fun t => readReg t .status == 0) = true := by decide
theorem test_mdetect_top_byte : gives (exec .mdetect (bench [] [] [] [0, 0, 0, 1]))
    (fun t => readReg t .status == 0x100) = true := by decide
theorem test_mread_top_byte : gives (exec .mread (bench [] [] [] [0, 0, 0, 1])) (fun t => t.hdrLen == 0x01000000)
    = true := by decide
theorem test_mread_max_file : gives (exec .mread { work with fileLen := 17 })
    (fun t => t.err == .fileRng && t.hdrLen == 0x12345678) = true := by decide

/-! ### Host scripts: P1 lines 67 and 76, and P3 line 2 -/

theorem test_scripts : scriptWrb .msgIn 0 1 = .write 0x50000000 1 1 ∧
    scriptRdc .zero 63 = [.read 0x300001F8 4, .read 0x300001FC 4] ∧ scriptWr .fileLen 16 = .write 0x40 4 16 ∧
    scriptCmd (.xself .one) = .write 0 4 0x131 := by decide

/-! ### Witnesses: for each statement with hypotheses, a state and operands that meet them -/

theorem witness_DecodeAndEncodeAgree :
    (Instr.fdct .one).wellFormed = true ∧ decode 0x00000110 = .ok (.fdct .one) := by decide

theorem witness_DecodeFollowsOpcodeMap :
    (⟨"XSELF", 0x00000031, 0xFFFFFEFF⟩ : OpcodeRow) ∈ opcodeMap ∧ (0x131 : Word) &&& 0xFFFFFEFF = 0x00000031 := by
  decide

theorem witness_IllegalWordsRaiseIllCmd :
    decode 0x120 = .error .strayBank ∧ (facing (.write 0 4 0x120)).bus = .write 0 4 0x120 :: [] ∧
    decode 0x210 = .error .reservedBits ∧ decode 0xFF = .error (.unknownOp 0xFF) := by decide

theorem witness_StepRunsDecodedCommand :
    (facing (.write 0 4 0x131)).bus = .write 0 4 0x131 :: [] ∧ decode 0x131 = .ok (.xself .one) := by decide

theorem witness_FetchWordRuns : decodeTableWord 32 0x42 = some .mread := by decide

theorem witness_HostReadFollowsTheMap_register : (facing (.read 0x48 4)).bus = .read 0x48 4 :: [] ∧
    (0x48 : Word).toNat = 4 * regNumber .id ∧ (0 : Word).toNat = 4 * regNumber .cmd := by decide

/-- The last byte of each byte memory, with the parameters of V27. -/
theorem witness_HostReadFollowsTheMap_byte : (facing (.read 0x7000000F 1)).bus = .read 0x7000000F 1 :: [] ∧
    ([(.pix0, 0x1000007F), (.pix1, 0x2000007F), (.msgIn, 0x50000001), (.msgOut, 0x60000001),
      (.file, 0x7000000F)] : List (MemId × Word)).all (fun p => decide (p.1 ∈ byteMemories ∧
        p.2.toNat = memBase p.1 + (memSize State.reset.params p.1 - 1) ∧
        memSize State.reset.params p.1 - 1 < 2 ^ 28)) = true := by decide

theorem witness_HostReadFollowsTheMap_half : (facing (.read 0x400003FC 4)).bus = .read 0x400003FC 4 :: [] ∧
    (0x400003FC : Word).toNat = memBase (coefId .one) + 1020 ∧ 1020 % 4 = 0 ∧ 1020 < 8 * State.reset.params.maxPix ∧
    1020 % 8 ≠ 0 ∧ (0x30000000 : Word).toNat = memBase (coefId .zero) + 0 := by decide

theorem witness_HostReadFollowsTheMap_refused :
    ([(0x4C, 4), (0x48, 1), (0x10000080, 1), (0x30000400, 4), (0x50000002, 1), (0x70000010, 1), (0x80000000, 4)] :
      List (Word × Nat)).all (fun a => decide (¬ admitted State.reset.params a.1 a.2)) = true := by decide

theorem witness_HostWriteFollowsTheMap_registers : Reg.hdrLen ∈ plainRegs ∧ (0x44 : Word).toNat = 4 * regNumber .hdrLen ∧
    (8 : Word).toNat = 4 * regNumber .ctrl ∧ Reg.id ∈ readOnlyRegs ∧ (0x48 : Word).toNat = 4 * regNumber .id ∧
    (0xFFFFFFFF : Word).toNat < 2 ^ (8 * 4) ∧
    (facing (.write 0x44 4 0xFFFFFFFF)).bus = .write 0x44 4 0xFFFFFFFF :: [] := by decide

theorem witness_HostWriteFollowsTheMap_command : (facing (.write 0 4 0x42)).bus = .write 0 4 0x42 :: [] ∧
    (0x42 : Word).toNat < 2 ^ (8 * 4) ∧ ¬ admitted State.reset.params 0x50000002 1 ∧ (0 : Word).toNat < 2 ^ (8 * 1) := by
  decide

theorem witness_HostWriteFollowsTheMap_byte : (facing (.write 0x1000007F 1 0xFF)).bus = .write 0x1000007F 1 0xFF :: [] ∧
    (0xFF : Word).toNat < 2 ^ (8 * 1) ∧ MemId.pix0 ∈ byteMemories ∧ (0x1000007F : Word).toNat = memBase .pix0 + 127 ∧
    127 < memSize State.reset.params .pix0 := by decide

theorem witness_HostWriteFollowsTheMap_half : (facing (.write 0x300003FC 4 1)).bus = .write 0x300003FC 4 1 :: [] ∧
    (1 : Word).toNat < 2 ^ (8 * 4) ∧ (0x300003FC : Word).toNat = memBase (coefId .zero) + 1020 ∧ 1020 % 4 = 0 ∧
    1020 < 8 * State.reset.params.maxPix := by decide

theorem witness_RefusedAccessChangesNothing : (facing (.read 0x4C 4)).bus = .read 0x4C 4 :: [] ∧
    ¬ admitted State.reset.params 0x4C 4 ∧ admitted State.reset.params 0x48 4 := by decide

theorem witness_ReservedBitsAndReadOnlyRegisters : (0xFFFFFFFF : Word).getLsbD 0 = (1 : Word).getLsbD 0 ∧
    (facing (.read 4 4)).bus = .read 4 4 :: [] ∧ Reg.status ∈ readOnlyRegs ∧
    (facing (.write 4 4 0xFF)).bus = .write (BitVec.ofNat 32 (4 * regNumber .status)) 4 0xFF :: [] := by decide

theorem witness_HardResetForgetsEverything : (facing .reset).bus = .reset :: [] := by decide

/-- MpatchWritesHeader, MdetectReportsHeader, MreadReadsHeader: FILELEN 10 and MAXFILE are in range, 9 and MAXFILE + 1 are not. -/
theorem witness_MetadataCommands : work.fileOK ∧ ({ work with fileLen := 16 } : State).fileOK ∧
    ¬ ({ work with fileLen := 9 } : State).fileOK ∧ ¬ ({ work with fileLen := 17 } : State).fileOK := by decide

theorem witness_HeaderRoundTrip : 10 ≤ work.fileLen.toNat ∧ work.fileLen.toNat ≤ work.params.maxFile := by decide

theorem witness_ForwardBlockIsRoundedSum : (7 : Nat) < 8 ∧ (7 : Nat) ≠ 0 := by decide

theorem witness_InverseBlockIsTruncatedSum : (0 : Nat) < 8 ∧ (7 : Nat) < 8 := by decide

theorem witness_TransformRanges : (∀ i < 8, ∀ j < 8, 0 ≤ impulse i j ∧ impulse i j ≤ 255) ∧
    (7, 7) ≠ ((0, 0) : Nat × Nat) := by decide

theorem witness_ConstantBlockExact : (∀ i < 8, ∀ j < 8, (fun _ _ => 255 : Nat → Nat → Int) i j = 255) ∧
    (fun k l => if k = 0 ∧ l = 0 then 255 * 2 ^ 35 else 0 : Nat → Nat → Int) 0 0 = 255 * 2 ^ 35 ∧
    (∀ k < 8, ∀ l < 8, (k, l) ≠ (0, 0) →
      (fun k l => if k = 0 ∧ l = 0 then 255 * 2 ^ 35 else 0 : Nat → Nat → Int) k l = 0) := by decide

/-- Both clauses: a pixel at least 1 and a pixel 0. -/
theorem witness_RoundTripWithinOne : (∀ i < 8, ∀ j < 8, 0 ≤ impulse i j ∧ impulse i j ≤ 255) ∧ 1 ≤ impulse 0 0 ∧
    impulse 7 7 = 0 := by decide

theorem witness_ForwardAccuracy : ∀ i < 8, ∀ j < 8, 0 ≤ impulse i j ∧ impulse i j ≤ 255 := by decide

/-- FdctTransformsPlane, IdctReconstructsPlane: one block, the largest plane of the parameters, and the empty plane. -/
theorem witness_PlaneCommands : dimsOK work.params (work.width .one) (work.height .one) ∧
    dimsOK work.params (({ work with w1 := 16 } : State).width .one) (work.height .one) ∧ dimsOK work.params 0 0 ∧
    0 < work.height .one / 8 ∧ 0 < work.width .one / 8 := by decide

/-- Not a multiple of 8, and larger than MAXPIX (for every plane command); the banks of the second state have equal dimensions. -/
theorem witness_BadDimensionsFault : ¬ dimsOK work.params 12 8 ∧ ({ work with w0 := 12, w1 := 12 } : State).w0 =
      ({ work with w0 := 12, w1 := 12 } : State).w1 ∧ work.h0 = work.h1 ∧
    ¬ dimsOK work.params (({ work with w0 := 24 } : State).width .zero) (work.height .zero) := by decide

theorem witness_SelectIsLastMaximum : (∀ r < 8, ∀ c < 8, (r, c) ≠ (0, 0) → impulse r c = 0) ∧
    ∀ r < 8, ∀ c < 8, (r, c) ≠ (0, 0) → (impulse r c).natAbs = ((fun _ _ => 0 : Nat → Nat → Int) r c).natAbs := by
  decide

/-- A block inside the grid, and the first ones outside it. -/
theorem witness_SelReportsSelection : dimsOK work.params (work.width .zero) (work.height .zero) ∧
    work.blkY.toNat < work.height .zero / 8 ∧ work.blkX.toNat < work.width .zero / 8 ∧
    work.height .zero / 8 ≤ ({ work with blkY := 1 } : State).blkY.toNat ∧
    work.width .zero / 8 ≤ ({ work with blkX := 1 } : State).blkX.toNat := by decide

theorem witness_PerturbSaturates : (-2 : Int) ^ 63 ≤ (0 : Int) - 2 ^ 63 ∧ (0 : Int) - 2 ^ 63 < 2 ^ 63 := by decide

theorem witness_EmbedWritesWatermark : dimsOK work.params (work.width .zero) (work.height .zero) ∧
    (∀ q < min work.msgLen.toNat (work.width .zero / 8 * (work.height .zero / 8)),
      work.byteAt .msgIn q = 0x00 ∨ work.byteAt .msgIn q = 0x01) ∧ 0 < work.msgLen.toNat := by decide

/-- An illegal first byte that is used, and a byte at the capacity. -/
theorem witness_EmbedChecksMessageFirst :
    dimsOK work.params ((bench ramp ramp [2] []).width .zero) ((bench ramp ramp [2] []).height .zero) ∧
    (0 < min (bench ramp ramp [2] []).msgLen.toNat 1 ∧ (bench ramp ramp [2] []).byteAt .msgIn 0 ≠ 0x00 ∧
      (bench ramp ramp [2] []).byteAt .msgIn 0 ≠ 0x01) ∧
    min work.msgLen.toNat (work.width .zero / 8 * (work.height .zero / 8)) ≤ 1 ∧
    gives (exec .embed work) (fun t => t.err == .ok) = true := by decide +kernel

theorem witness_UnperturbedBlocksLoseAtMostOne :
    dimsOK work.params (({ work with msgLen := 0 } : State).width .zero) (work.height .zero) ∧
    (∀ q < min ({ work with msgLen := 0 } : State).msgLen.toNat 1,
      work.byteAt .msgIn q = 0x00 ∨ work.byteAt .msgIn q = 0x01) ∧
    ({ work with msgLen := 0 } : State).msgLen.toNat ≤ 0 * (work.width .zero / 8) + 0 := by decide

theorem witness_XdiffDecodesRasterBits : work.w0 = work.w1 ∧ work.h0 = work.h1 ∧
    dimsOK work.params (work.width .zero) (work.height .zero) := by decide

/-- Equal planes, with MSGLEN above 0 and with FORCED. -/
theorem witness_XdiffIdenticalImages : work.w0 = work.w1 ∧ work.h0 = work.h1 ∧
    dimsOK work.params (work.width .zero) (work.height .zero) ∧
    (∀ n < work.width .zero * work.height .zero, work.byteAt .pix0 n = work.byteAt .pix1 n) ∧ 0 < work.msgLen.toNat ∧
    ({ work with forced := true } : State).forced = true := by decide +kernel

theorem witness_XdiffMismatchComesFirst : ({ work with w0 := 16 } : State).w0 ≠ ({ work with w0 := 16 } : State).w1 ∧
    ({ work with h1 := 0 } : State).h0 ≠ ({ work with h1 := 0 } : State).h1 := by decide

theorem witness_ForcedModeIgnoresLength : ({ work with forced := true } : State).forced = true ∧
    gives (exec .xdiff { work with forced := true }) (fun _ => true) = true ∧ work.params.wellFormed = true ∧
    dimsOK work.params (work.width .zero) (work.height .zero) := by decide +kernel

theorem witness_XselfDecodesSigns : dimsOK work.params (work.width .zero) (work.height .zero) ∧
    0 * (work.width .zero / 8) + 0 < min work.msgLen.toNat (work.width .zero / 8 * (work.height .zero / 8)) := by decide

/-- An illegal word and a command that faults. -/
theorem witness_FaultsArePrecise : (facing (.write 0 4 0x120)).bus = .write 0 4 0x120 :: [] ∧
    gives (step (facing (.write 0 4 0x120))) (fun t => t.err != .ok && t.err != .ident) = true ∧
    gives (step (facing (.write 0 4 0x42))) (fun t => t.err == .fileRng) = true := by decide

theorem witness_PossibleErrorCodes : gives (exec (.sel .zero) { work with blkY := 1 }) (fun t => t.err == .blkRng) =
      true ∧ decode 0x120 = .error .strayBank ∧
    gives (runCommand 0x120 work) (fun t => t.err == .illCmd) = true := by decide

theorem witness_StatusIsNeverRead : gives (exec .mread work) (fun t => t.err == .ok) = true ∧ Instr.mread ≠ .srst ∧
    Instr.mread ≠ .mdetect := by decide

theorem witness_CommandsWriteOnlyTheirTable : gives (exec .mpatch work) (fun t => t.err == .ok) = true ∧
    Instr.mpatch ≠ .srst ∧ Instr.mpatch ≠ .mdetect := by decide

theorem witness_StaleMemoriesDoNotMatter : (∀ b, Instr.fdct .zero ≠ .idct b ∧ Instr.fdct .zero ≠ .sel b) ∧
    gives (exec (.fdct .zero) work) (fun t => t.err == .ok) = true ∧
    ∀ t, writtenBytes (.fdct .zero) work t .coef0 511 := by
  exact ⟨fun b => by cases b <;> decide, by decide +kernel, fun _ => ⟨rfl, by decide⟩⟩

/-- The clause on MSGOUT alone, at a command that the other clause leaves out. -/
theorem witness_StaleMemoriesDoNotMatter_msgOut :
    gives (exec (.idct .zero) work) (fun t => t.err == .ok) = true ∧
    ∀ t, writtenBytes (.idct .zero) work t .pix0 63 := by
  exact ⟨by decide +kernel, fun _ => ⟨rfl, by decide⟩⟩

theorem witness_OperandRegistersHaveOneReader : gives (exec .mread work) (fun _ => true) = true ∧ Instr.mread ≠ .xdiff ∧
    Instr.mread ≠ .embed ∧ ∀ b, Instr.mread ≠ .sel b := by
  exact ⟨by decide, by decide, by decide, fun b => by cases b <;> decide⟩

/-- A state with bytes in five memories that meets the invariant, and its next step. -/
theorem witness_InvariantKept : ({ work with bus := [.write 0 4 0x42] } : State).Inv ∧
    gives (step { work with bus := [.write 0 4 0x42] }) (fun t => t.hdrLen == 0xDDCCBBAA) = true := by
  exact ⟨⟨by decide, fun id => by cases id <;> decide +kernel, fun id => by cases id <;> decide +kernel, by decide⟩,
    by decide⟩

theorem witness_HarmlessAfterReset :
    ∀ r, readReg ({ State.reset with pix0 := Memory.cells 0 ramp } : State) r = readReg State.reset r := by
  intro r; cases r <;> rfl

/-- A state with a code above OK and DET set reads as V26's STATUS = 0x00000104. -/
theorem witness_RegistersReadTheirFields : ({ work with err := .ident, det := true } : State).err = .ident ∧
    readReg { work with err := .ident, det := true } .status = 0x00000104 := by decide

/-- The state of P1 before its EMBED. -/
def p1 : State := { bench gray [] [1] [] with alphaHi := 0, alphaLo := 0x80000000 }

theorem witness_GrayBlockScenario : 64 ≤ p1.params.maxPix ∧ p1.w0 = 8 ∧ p1.h0 = 8 ∧
    (∀ k < 64, p1.byteAt .pix0 k = 128) ∧ p1.msgLen = 1 ∧ p1.byteAt .msgIn 0 = 1 ∧ p1.alphaHi = 0 ∧
    p1.alphaLo = 0x80000000 ∧ p1.forced = false := by decide +kernel

theorem witness_BlackBlockLosesTheBit : 64 ≤ p1.params.maxPix ∧
    (∀ k < 64, ({ p1 with pix0 := Memory.cells 0 (List.replicate 64 0) } : State).byteAt .pix0 k = 0) ∧
    p1.msgLen = 1 ∧ p1.byteAt .msgIn 0 = 1 ∧ p1.alphaHi = 0 ∧ p1.alphaLo = 0x80000000 := by decide +kernel

end Sys2Proof.Tests
end

