-- ==== Sys2Proof/Proofs/Invariant.lean ====
section
/-! PROOF. The invariant of the state, operation by operation, command by command, and for one step: settles
O47. The invariant speaks of the parameters, the memories and BITCNT only (`State.Inv.congr`), so what has to be
shown is that every store ends inside its memory and that every bit count is at most MAXMSG. -/

namespace Sys2Proof.Machine

variable {s t : State}

/-! ### The operations on the state -/

/-- The invariant depends on the parameters, the memories and BITCNT alone. -/
theorem State.Inv.congr (hs : s.Inv) (hp : t.params = s.params) (hm : ∀ id, t.mem id = s.mem id)
    (hc : t.bitCnt = s.bitCnt) : t.Inv where
  params := by rw [hp]; exact hs.params
  canonical id := by rw [hm]; exact hs.canonical id
  bounded id := by rw [hm, hp]; exact hs.bounded id
  count := by rw [hc, hp]; exact hs.count

theorem State.Inv.setErr (hs : s.Inv) (c : ErrCode) : (s.setErr c).Inv :=
  hs.congr rfl (by simp) rfl

theorem State.Inv.setDet (hs : s.Inv) (d : Bool) : (s.setDet d).Inv :=
  hs.congr rfl (by simp) rfl

theorem State.Inv.setHdrLen (hs : s.Inv) (v : Nat) : (s.setHdrLen v).Inv :=
  hs.congr rfl (by simp) rfl

theorem State.Inv.setDims1 (hs : s.Inv) (w h : Word) : (s.setDims1 w h).Inv :=
  hs.congr rfl (by simp) rfl

theorem State.Inv.setSelection (hs : s.Inv) (r c : Nat) (v : CoefWord) : (s.setSelection r c v).Inv :=
  hs.congr rfl (by simp) rfl

theorem State.Inv.setBus (hs : s.Inv) (es : List BusEvent) : (s.setBus es).Inv :=
  hs.congr rfl (by simp) rfl

theorem State.Inv.answer (hs : s.Inv) (r : BusReply) : (s.answer r).Inv :=
  hs.congr rfl (by simp) rfl

/-- BITCNT is read-only to the host (10_state.md R30, R36), so a register write keeps the invariant. -/
theorem State.Inv.writeReg (hs : s.Inv) (v : Word) (r : Reg) : (writeReg s v r).Inv := by
  refine hs.congr ?_ (fun id => ?_) ?_
  · cases r <;> rfl
  · cases r <;> cases id <;> rfl
  · cases r <;> rfl

theorem State.Inv.setBitCnt (hs : s.Inv) {n : Nat} (hn : n ≤ s.params.maxMsg) : (s.setBitCnt n).Inv where
  params := hs.params
  canonical id := by simpa using hs.canonical id
  bounded id := by simpa using hs.bounded id
  count := by
    rw [State.setBitCnt_bitCnt, BitVec.toNat_ofNat]
    exact (Nat.mod_le _ _).trans hn

theorem State.Inv.storeBytes (hs : s.Inv) {id : MemId} {a : Nat} {bs : List Byte}
    (hn : a + bs.length ≤ memSize s.params id) : (s.storeBytes id a bs).Inv where
  params := by simpa using hs.params
  canonical id' := by
    rw [State.mem_storeBytes]
    split
    · exact Memory.wf_store (hs.canonical id) a bs
    · exact hs.canonical id'
  bounded id' := by
    rw [State.mem_storeBytes, State.storeBytes_params]
    split
    · next heq => rw [heq]; exact Memory.within_store (hs.bounded id) a bs (.inr hn)
    · exact hs.bounded id'
  count := by simpa using hs.count

theorem memSize_pixId (p : Config.Params) (b : Bank) : memSize p (pixId b) = p.maxPix := by
  cases b <;> rfl

theorem memSize_coefId (p : Config.Params) (b : Bank) : memSize p (coefId b) = 8 * p.maxPix := by
  cases b <;> rfl

theorem State.Inv.writePix (hs : s.Inv) {b : Bank} {ps : List Int} (hn : ps.length ≤ s.params.maxPix) :
    (s.writePix b ps).Inv :=
  hs.storeBytes (by rw [memSize_pixId, length_pixBytes]; omega)

theorem State.Inv.writeCoef (hs : s.Inv) {b : Bank} {cs : List Int} (hn : cs.length ≤ s.params.maxPix) :
    (s.writeCoef b cs).Inv :=
  hs.storeBytes (by rw [memSize_coefId, length_coefBytes]; omega)

theorem State.Inv.resetRegisters (hs : s.Inv) : s.resetRegisters.Inv where
  params := hs.params
  canonical id := by simpa using hs.canonical id
  bounded id := by simpa using hs.bounded id
  count := Nat.zero_le _

theorem State.Inv.hardReset (hs : s.Inv) : s.hardReset.Inv where
  params := hs.params
  canonical id := by simp [Memory.wf]
  bounded id := by simp
  count := Nat.zero_le _

/-- R13: FILE has room for the header field. -/
theorem State.Inv.header_le_maxFile (hs : s.Inv) : 10 ≤ s.params.maxFile := by
  have hp := hs.params
  simp only [Config.Params.wellFormed, Bool.and_eq_true, decide_eq_true_eq] at hp
  obtain ⟨⟨_, hfile⟩, _⟩ := hp
  exact hfile

/-- One bit a block fits the message memories and BITCNT (R13, R30). -/
theorem length_rasterBlocks_le_maxMsg {p : Config.Params} {w h : Nat} (hd : dimsOK p w h) :
    (rasterBlocks w h).length ≤ p.maxMsg := by
  rw [length_rasterBlocks]
  exact capacity_le_maxMsg hd

theorem State.embedded_count_le {w h : Nat} (hd : dimsOK s.params w h) :
    (s.embedded w h).2 ≤ s.params.maxMsg := by
  calc (s.embedded w h).2 ≤ 0 + (rasterBlocks w h).length := embedScan_count_le ..
    _ = (rasterBlocks w h).length := Nat.zero_add _
    _ ≤ s.params.maxMsg := length_rasterBlocks_le_maxMsg hd

theorem State.length_embedded (s : State) (w h : Nat) : (s.embedded w h).1.length = w * h := by
  rw [State.embedded, length_embedScan, length_transformOf]

/-- Both extractors finish alike: the decoded bits go to MSGOUT from element 0 and their number to BITCNT. -/
theorem State.Inv.storeMessage (hs : s.Inv) {bits : List Byte} (hn : bits.length ≤ s.params.maxMsg) :
    ((s.storeBytes .msgOut 0 bits).setBitCnt bits.length).Inv := by
  have hstore : (s.storeBytes .msgOut 0 bits).Inv := hs.storeBytes ((Nat.zero_add _).trans_le hn)
  exact hstore.setBitCnt (by rwa [State.storeBytes_params])

/-! ### The commands -/

theorem execFdct_inv {b : Bank} (hs : s.Inv) (h : execFdct b s = .next t) : t.Inv := by
  obtain ⟨⟨_, _, hfit⟩, rfl⟩ | ⟨_, rfl⟩ := execFdct_cases h
  · exact (hs.writeCoef (by rwa [length_transformOf])).setErr _
  · exact hs.setErr _

theorem execIdct_inv {b : Bank} (hs : s.Inv) (h : execIdct b s = .next t) : t.Inv := by
  obtain ⟨⟨_, _, hfit⟩, rfl⟩ | ⟨_, rfl⟩ := execIdct_cases h
  · exact (hs.writePix (by rwa [length_idctPlane])).setErr _
  · exact hs.setErr _

theorem execSel_inv {b : Bank} (hs : s.Inv) (h : execSel b s = .next t) : t.Inv := by
  obtain ⟨_, _, _, _, _, rfl⟩ | ⟨_, _, rfl⟩ | ⟨_, rfl⟩ := execSel_cases h
  · exact (hs.setSelection ..).setErr _
  · exact hs.setErr _
  · exact hs.setErr _

theorem execEmbed_inv (hs : s.Inv) (h : execEmbed s = .next t) : t.Inv := by
  obtain ⟨hd, _, r, hr, rfl⟩ | ⟨_, _, rfl⟩ | ⟨_, rfl⟩ := execEmbed_cases h
  · have ⟨_, _, hfit⟩ := hd
    have hplane := hs.writeCoef (b := .zero) (cs := r.1) (by rwa [hr, State.length_embedded])
    have himage := hplane.writePix (b := .one) (ps := idctPlane r.1 (s.width .zero) (s.height .zero))
      (by rwa [length_idctPlane])
    have hcount : r.2 ≤ s.params.maxMsg := by rw [hr]; exact State.embedded_count_le hd
    exact ((himage.setDims1 _ _).setBitCnt (by simpa using hcount)).setErr _
  · exact hs.setErr _
  · exact hs.setErr _

theorem execXdiff_inv (hs : s.Inv) (h : execXdiff s = .next t) : t.Inv := by
  obtain ⟨_, _, hd, c0, c1, bits, hc0, hc1, hbits, rfl⟩ | ⟨_, rfl⟩ | ⟨_, _, _, rfl⟩ := execXdiff_cases h
  · have ⟨_, _, hfit⟩ := hd
    have hplane0 := hs.writeCoef (b := .zero) (cs := c0) (by rwa [hc0, length_transformOf])
    have hplane1 := hplane0.writeCoef (b := .one) (cs := c1) (by rwa [hc1, length_transformOf])
    have hlen : bits.length ≤ s.params.maxMsg := by
      rw [hbits]
      exact (length_diffScan_le ..).trans (length_rasterBlocks_le_maxMsg hd)
    exact (hplane1.storeMessage (by simpa using hlen)).setErr _
  · exact hs.setErr _
  · exact hs.setErr _

theorem execXself_inv {b : Bank} (hs : s.Inv) (h : execXself b s = .next t) : t.Inv := by
  obtain ⟨hd, c, bits, hc, hbits, rfl⟩ | ⟨_, rfl⟩ := execXself_cases h
  · have ⟨_, _, hfit⟩ := hd
    have hplane := hs.writeCoef (b := b) (cs := c) (by rwa [hc, length_transformOf])
    have hlen : bits.length ≤ s.params.maxMsg := by
      rw [hbits]
      exact (length_selfScan_le ..).trans (length_rasterBlocks_le_maxMsg hd)
    exact (hplane.storeMessage (by simpa using hlen)).setErr _
  · exact hs.setErr _

/-- FileOK bounds FILELEN, not the access; the store at 6 to 9 fits because MAXFILE is at least 10 (R13). -/
theorem execMpatch_inv (hs : s.Inv) (h : execMpatch s = .next t) : t.Inv := by
  obtain ⟨_, rfl⟩ | ⟨_, rfl⟩ := execMpatch_cases h
  · exact (hs.storeBytes (by rw [length_leBytes]; exact hs.header_le_maxFile)).setErr _
  · exact hs.setErr _

theorem execMdetect_inv (hs : s.Inv) (h : execMdetect s = .next t) : t.Inv := by
  obtain ⟨_, rfl⟩ | ⟨_, rfl⟩ := execMdetect_cases h
  · exact (hs.setDet _).setErr _
  · exact hs.setErr _

theorem execMread_inv (hs : s.Inv) (h : execMread s = .next t) : t.Inv := by
  obtain ⟨_, rfl⟩ | ⟨_, rfl⟩ := execMread_cases h
  · exact (hs.setHdrLen _).setErr _
  · exact hs.setErr _

/-- Every command keeps the invariant. -/
theorem exec_inv {i : Instr} (hs : s.Inv) (h : exec i s = .next t) : t.Inv := by
  cases i with
  | nop => rw [execNop_cases h]; exact hs.setErr _
  | srst => rw [execSrst_cases h]; exact hs.resetRegisters
  | fdct b => exact execFdct_inv hs h
  | idct b => exact execIdct_inv hs h
  | sel b => exact execSel_inv hs h
  | embed => exact execEmbed_inv hs h
  | xdiff => exact execXdiff_inv hs h
  | xself b => exact execXself_inv hs h
  | mpatch => exact execMpatch_inv hs h
  | mdetect => exact execMdetect_inv hs h
  | mread => exact execMread_inv hs h

/-! ### The bus and one step -/

/-- An admitted write stays inside its memory; the four bytes of a half do because both their offset and the
size of the memory are multiples of 4 (20_memory.md R66). -/
theorem writeTarget_inv {addr : Word} {size : Nat} {tg : BusTarget} (hs : s.Inv) (v : Word)
    (h : busTarget s.params addr size = some tg) : (writeTarget s v tg).Inv := by
  obtain ⟨r, rfl, _⟩ | ⟨id, off, rfl, _, _, hoff⟩ | ⟨b, off, rfl, _, halign, hoff⟩ := busTarget_cases h
  · exact hs.writeReg v r
  · exact hs.storeBytes hoff
  · exact hs.storeBytes (by rw [memSize_coefId, length_leBytes]; omega)

theorem busEffect_done_inv {e : BusEvent} (hs : s.Inv) (h : busEffect e s = .done t) : t.Inv := by
  obtain ⟨_, _, _, _, _, rfl⟩ | ⟨_, _, v, _, _, htg, _, rfl⟩ | ⟨_, rfl⟩ | ⟨_, rfl⟩ := busEffect_done h
  · exact hs.answer _
  · exact (writeTarget_inv hs v htg).answer _
  · exact hs.answer _
  · exact hs.hardReset

theorem busEffect_command_inv {e : BusEvent} {c : Word} (hs : s.Inv) (h : busEffect e s = .command c t) :
    t.Inv := by
  obtain ⟨_, _, _, _, rfl⟩ := busEffect_command h
  exact hs.answer _

theorem step_inv (hs : s.Inv) (h : step s = .next t) : t.Inv := by
  obtain ⟨_, rfl⟩ | ⟨_, rest, _, hdone⟩ | ⟨_, rest, _, _, _, hcmd, hrun⟩ := step_cases h
  · exact hs
  · exact busEffect_done_inv (hs.setBus rest) hdone
  · have hu := busEffect_command_inv (hs.setBus rest) hcmd
    obtain ⟨_, _, hexec⟩ | ⟨_, _, rfl⟩ := hrun
    · exact exec_inv hu hexec
    · exact hu.setErr _

end Sys2Proof.Machine

namespace Sys2Proof.Proofs

open Sys2Proof.Machine

/-- Settles O47: every operation keeps the invariant, so every command and every bus event does. -/
theorem invariantKept : Obligations.InvariantKept := by
  unfold Obligations.InvariantKept
  exact fun _ _ hs h => step_inv hs h

end Sys2Proof.Proofs
end

/-! PROOF. The registers as the host reads them, and one access of a register: settles O5, O6, O10, O12, O52
and O53. -/

namespace Sys2Proof.Machine

variable {s : State} {rest : List BusEvent}

/-! ### Reading a register -/

theorem statusWord_high (s : State) : (statusWord s).extractLsb' 9 23 = 0 := by
  rw [statusWord, BitVec.extractLsb'_append_eq_of_le (by decide)]
  exact BitVec.extractLsb'_append_eq_left

theorem statusWord_det (s : State) : (statusWord s).getLsbD 8 = s.det := by
  rw [statusWord, BitVec.getLsbD_append, if_neg (by decide), BitVec.getLsbD_append, if_pos (by decide)]
  simp

theorem statusWord_err (s : State) : (statusWord s).extractLsb' 0 8 = errNumber s.err :=
  BitVec.extractLsb'_append_eq_right

theorem ctrlWord_high (s : State) : (ctrlWord s).extractLsb' 1 31 = 0 :=
  BitVec.extractLsb'_append_eq_left

theorem ctrlWord_eq (s : State) : ctrlWord s = if s.forced then 1 else 0 := by
  rw [ctrlWord]
  cases s.forced <;> rfl

theorem selPosWord_high (s : State) : (selPosWord s).extractLsb' 6 26 = 0 :=
  BitVec.extractLsb'_append_eq_left

theorem selPosWord_toNat (s : State) : (selPosWord s).toNat = s.selPos.toNat := by
  rw [selPosWord, BitVec.toNat_append]
  simp

/-! ### One access -/

/-- The address of a register reaches that register, whatever the parameters are (20_memory.md R61). -/
theorem busTarget_regNumber (p : Config.Params) (r : Reg) :
    busTarget p (BitVec.ofNat 32 (4 * regNumber r)) 4 = some (.register r) := by
  cases r <;> rfl

/-- No read has a side effect (10_state.md R36): only the bus's answer is new. -/
theorem step_read {addr : Word} {n : Nat} (hb : s.bus = .read addr n :: rest) :
    ∃ a, step s = .next ((s.setBus rest).answer a) := by
  simp only [step, hb, busEffect]
  cases busTarget (s.setBus rest).params addr n with
  | none => exact ⟨_, rfl⟩
  | some tg => exact ⟨_, rfl⟩

theorem step_write_register {r : Reg} {v : Word} (hr : r ≠ .cmd)
    (hb : s.bus = .write (BitVec.ofNat 32 (4 * regNumber r)) 4 v :: rest) :
    step s = .next ((writeReg (s.setBus rest) v r).answer .written) := by
  simp only [step, hb, busEffect, busTarget_regNumber]
  cases r with
  | cmd => exact absurd rfl hr
  | _ => rfl

theorem step_write_cmd {c : Word} (hb : s.bus = .write 0 4 c :: rest) :
    step s = runCommand c ((s.setBus rest).answer .written) := by
  have ht : busTarget (s.setBus rest).params 0 4 = some (.register .cmd) := busTarget_regNumber _ .cmd
  simp only [step, hb, busEffect, ht]

theorem runCommand_of_decode {c : Word} {i : Instr} (hc : decode c = .ok i) (s : State) :
    runCommand c s = exec i s := by
  simp only [runCommand, hc]

theorem step_of_decode {c : Word} {i : Instr} (hb : s.bus = .write 0 4 c :: rest) (hc : decode c = .ok i) :
    step s = exec i ((s.setBus rest).answer .written) := by
  rw [step_write_cmd hb, runCommand_of_decode hc]

theorem decodeTableWord_eq_some {n w : Nat} {i : Instr} (h : decodeTableWord n w = some i) :
    decode (BitVec.ofNat 32 (w % 2 ^ n)) = .ok i := by
  simp only [decodeTableWord] at h
  split at h
  · next hd => cases h; exact hd
  · cases h

/-- A read-only register stores nothing (10_state.md R36). -/
theorem writeReg_of_readOnly {r : Reg} (hr : r ∈ readOnlyRegs) (s : State) (v : Word) : writeReg s v r = s := by
  simp only [readOnlyRegs, List.mem_cons, List.not_mem_nil, or_false] at hr
  obtain rfl | rfl | rfl | rfl | rfl | rfl := hr <;> rfl

/-- CTRL stores bit 0 of the written word alone (10_state.md R26). -/
theorem writeReg_ctrl_congr {v w : Word} (h : v.getLsbD 0 = w.getLsbD 0) (s : State) :
    writeReg s v .ctrl = writeReg s w .ctrl := by
  simp only [writeReg, forcedOfWord, h]

end Sys2Proof.Machine

namespace Sys2Proof.Proofs

open Sys2Proof.Machine

/-- Settles O5: address 0 is CMD's, and a write of CMD runs the word. -/
theorem stepRunsDecodedCommand : Obligations.StepRunsDecodedCommand := by
  unfold Obligations.StepRunsDecodedCommand
  exact fun _ _ _ _ hb hc => step_of_decode hb hc

/-- Settles O6: the word stands at the head of the stream, and behind it the stream as it was. -/
theorem fetchWordRuns : Obligations.FetchWordRuns := by
  unfold Obligations.FetchWordRuns
  intro s w i h
  exact step_of_decode (s := s.withFetchWord 32 w) (rest := s.bus) rfl (decodeTableWord_eq_some h)

/-- Settles O10: from what the three words with reserved bits read, what a register stores, and what a read does. -/
theorem reservedBitsAndReadOnlyRegisters : Obligations.ReservedBitsAndReadOnlyRegisters := by
  unfold Obligations.ReservedBitsAndReadOnlyRegisters
  refine ⟨fun s => ⟨statusWord_high s, ctrlWord_high s, selPosWord_high s⟩, fun s v w rest hvw => ?_,
    fun s r v rest hr hb => ?_, fun s addr n rest hb => ?_⟩
  · rw [step_write_register (r := .ctrl) (v := v) (rest := rest) (by decide) rfl,
      step_write_register (r := .ctrl) (v := w) (rest := rest) (by decide) rfl, writeReg_ctrl_congr hvw]
    rfl
  · have hne : r ≠ .cmd := by
      rintro rfl
      exact absurd hr (by decide)
    rw [step_write_register hne hb, writeReg_of_readOnly hr]
    rfl
  · exact step_read hb

/-- Settles O12, register by register. -/
theorem resetRegisterValues : Obligations.ResetRegisterValues := by
  unfold Obligations.ResetRegisterValues
  intro r
  cases r <;> rfl

/-- Settles O52: STATUS, CTRL and SELPOS bit by bit; every other register reads as its field. -/
theorem registersReadTheirFields : Obligations.RegistersReadTheirFields := by
  unfold Obligations.RegistersReadTheirFields
  refine ⟨fun c => by cases c <;> decide, fun s => ⟨fun p hp herr => ?_, statusWord_det s, statusWord_high s,
    ctrlWord_eq s, selPosWord_toNat s, rfl, rfl, rfl, rfl, rfl, rfl, rfl, rfl, rfl, rfl, rfl, rfl, rfl, rfl, rfl,
    rfl⟩⟩
  have hnumber : errNumber p.1 = p.2 := by
    clear herr
    revert p
    decide
  calc (readReg s .status).extractLsb' 0 8 = errNumber s.err := statusWord_err s
    _ = errNumber p.1 := by rw [herr]
    _ = p.2 := hnumber

/-- Settles O53: the tables of the model are these lists. -/
theorem addressMapWrittenOut : Obligations.AddressMapWrittenOut := by
  unfold Obligations.AddressMapWrittenOut
  exact ⟨rfl, fun _ => rfl⟩

end Sys2Proof.Proofs

/-! PROOF. What a command reads and writes (10_state.md R45), said once for all eleven: two runs of a command
on states with the same operands make the same writes and end with the same code (`exec_runsAlike`), and these
writes are the ones of the table (`WritesTable`). Settles O43, O44, O45 and O46. -/

namespace Sys2Proof.Machine

/-! ### Parts of the state -/

/-- A part of the state that no command reads, or few do. -/
inductive Part
  /-- STATUS.ERR (10_state.md R25) -/
  | err
  /-- STATUS.DET (R25) -/
  | det
  /-- CTRL (R26) -/
  | ctrl
  /-- ALPHA_HI and ALPHA_LO (R28) -/
  | alpha
  /-- BLKY and BLKX (R31) -/
  | block
  /-- COEF0, COEF1 and MSGOUT (R40, R41) -/
  | results
  /-- MSGOUT (R41) -/
  | msgOut

/-- The state `s` with one part of it taken from `u`. -/
def State.graft (s : State) (p : Part) (u : State) : State :=
  match p with
  | .err => s.setErr u.err
  | .det => s.setDet u.det
  | .ctrl => { s with forced := u.forced }
  | .alpha => { s with alphaLo := u.alphaLo, alphaHi := u.alphaHi }
  | .block => { s with blkY := u.blkY, blkX := u.blkX }
  | .results => { s with coef0 := u.coef0, coef1 := u.coef1, msgOut := u.msgOut }
  | .msgOut => { s with msgOut := u.msgOut }

/-- `s'` is `s` but for the part `p`. -/
def State.AgreeOutside (p : Part) (s s' : State) : Prop := s'.graft p s = s

/-- The commands that read a part: CTRL is read by XDIFF (R26), ALPHA by EMBED (R28), BLKY and BLKX by SEL
(R31), stale coefficients by IDCT and SEL (R40). -/
def Part.ReadBy (p : Part) (i : Instr) : Prop :=
  match p with
  | .err => False
  | .det => False
  | .ctrl => i = .xdiff
  | .alpha => i = .embed
  | .block => ∃ b, i = .sel b
  | .results => ∃ b, i = .idct b ∨ i = .sel b
  | .msgOut => False

/-! ### What a command reads -/

/-- `s'` has the operands of the command `i` that `s` has (R45, column "reads"): what many commands read, and the
parts that few do where `i` reads them. -/
structure State.SameOperands (i : Instr) (s s' : State) : Prop where
  params : s'.params = s.params
  widthReg : ∀ b, s'.widthReg b = s.widthReg b
  heightReg : ∀ b, s'.heightReg b = s.heightReg b
  msgLen : s'.msgLen = s.msgLen
  fileLen : s'.fileLen = s.fileLen
  hdrLen : s'.hdrLen = s.hdrLen
  pix : ∀ b k, s'.byteAt (pixId b) k = s.byteAt (pixId b) k
  msgIn : ∀ k, s'.byteAt .msgIn k = s.byteAt .msgIn k
  file : ∀ k, s'.byteAt .file k = s.byteAt .file k
  forced : Part.ctrl.ReadBy i → s'.forced = s.forced
  alpha : Part.alpha.ReadBy i → s'.alpha = s.alpha
  blkY : Part.block.ReadBy i → s'.blkY = s.blkY
  blkX : Part.block.ReadBy i → s'.blkX = s.blkX
  coef : Part.results.ReadBy i → ∀ b k, s'.byteAt (coefId b) k = s.byteAt (coefId b) k

variable {i : Instr} {s s' t : State} {p : Part}

theorem State.sameOperands_graft (hp : ¬ p.ReadBy i) (u s : State) : State.SameOperands i (s.graft p u) s where
  params := by cases p <;> rfl
  widthReg b := by cases p <;> cases b <;> rfl
  heightReg b := by cases p <;> cases b <;> rfl
  msgLen := by cases p <;> rfl
  fileLen := by cases p <;> rfl
  hdrLen := by cases p <;> rfl
  pix b k := by cases p <;> cases b <;> rfl
  msgIn k := by cases p <;> rfl
  file k := by cases p <;> rfl
  forced hr := by
    cases p with
    | ctrl => exact absurd hr hp
    | _ => rfl
  alpha hr := by
    cases p with
    | alpha => exact absurd hr hp
    | _ => rfl
  blkY hr := by
    cases p with
    | block => exact absurd hr hp
    | _ => rfl
  blkX hr := by
    cases p with
    | block => exact absurd hr hp
    | _ => rfl
  coef hr b k := by
    cases p with
    | results => exact absurd hr hp
    | _ => cases b <;> rfl

/-- Two states that agree outside a part which a command does not read have the same operands for it. -/
theorem State.AgreeOutside.sameOperands (h : s.AgreeOutside p s') (hp : ¬ p.ReadBy i) :
    s.SameOperands i s' := by
  unfold State.AgreeOutside at h
  have hs := State.sameOperands_graft hp s s'
  rwa [h] at hs

theorem State.SameOperands.refl (i : Instr) (s : State) : s.SameOperands i s :=
  ⟨rfl, fun _ => rfl, fun _ => rfl, rfl, rfl, rfl, fun _ _ => rfl, fun _ => rfl, fun _ => rfl, fun _ => rfl,
    fun _ => rfl, fun _ => rfl, fun _ => rfl, fun _ _ _ => rfl⟩

namespace State.SameOperands

theorem width (hs : s.SameOperands i s') (b : Bank) : s'.width b = s.width b := by
  rw [State.width, hs.widthReg, State.width]

theorem height (hs : s.SameOperands i s') (b : Bank) : s'.height b = s.height b := by
  rw [State.height, hs.heightReg, State.height]

theorem w0 (hs : s.SameOperands i s') : s'.w0 = s.w0 := hs.widthReg .zero
theorem h0 (hs : s.SameOperands i s') : s'.h0 = s.h0 := hs.heightReg .zero
theorem w1 (hs : s.SameOperands i s') : s'.w1 = s.w1 := hs.widthReg .one
theorem h1 (hs : s.SameOperands i s') : s'.h1 = s.h1 := hs.heightReg .one

theorem transformOf (hs : s.SameOperands i s') (b : Bank) (w h : Nat) :
    s'.transformOf b w h = s.transformOf b w h := by
  simp only [State.transformOf, State.pixPlane, hs.pix]

theorem coefWord (hs : s.SameOperands i s') (hr : Part.results.ReadBy i) (b : Bank) (k : Nat) :
    s'.coefWord b k = s.coefWord b k := by
  simp only [State.coefWord, hs.coef hr]

theorem coefAt (hs : s.SameOperands i s') (hr : Part.results.ReadBy i) (b : Bank) (k : Nat) :
    s'.coefAt b k = s.coefAt b k := by
  simp only [State.coefAt, hs.coefWord hr]

theorem coefPlane (hs : s.SameOperands i s') (hr : Part.results.ReadBy i) (b : Bank) (n : Nat) :
    s'.coefPlane b n = s.coefPlane b n := by
  simp only [State.coefPlane, hs.coefAt hr]

theorem embedded (hs : s.SameOperands i s') (hr : Part.alpha.ReadBy i) (w h : Nat) :
    s'.embedded w h = s.embedded w h := by
  simp only [State.embedded, hs.msgLen, hs.alpha hr, hs.transformOf, funext hs.msgIn]

theorem diffLimit (hs : s.SameOperands i s') (hr : Part.ctrl.ReadBy i) : s'.diffLimit = s.diffLimit := by
  simp only [State.diffLimit, hs.forced hr, hs.msgLen]

theorem headerBytes (hs : s.SameOperands i s') : s'.headerBytes = s.headerBytes := by
  simp only [State.headerBytes, hs.file]

theorem headerValue (hs : s.SameOperands i s') : s'.headerValue = s.headerValue := by
  rw [State.headerValue, hs.headerBytes, State.headerValue]

end State.SameOperands

/-! ### The writes of a command -/

/-- One write a command makes, other than of STATUS.ERR; `registers` is SRST's reset of them all. -/
inductive Write
  | bytes (id : MemId) (a : Nat) (bs : List Byte)
  | det (d : Bool)
  | bitCnt (n : Nat)
  | dims1 (w h : Word)
  | hdrLen (v : Nat)
  | selection (r c : Nat) (v : CoefWord)
  | registers

/-- The state after one write. -/
def Write.apply (s : State) : Write → State
  | .bytes id a bs => s.storeBytes id a bs
  | .det d => s.setDet d
  | .bitCnt n => s.setBitCnt n
  | .dims1 w h => s.setDims1 w h
  | .hdrLen v => s.setHdrLen v
  | .selection r c v => s.setSelection r c v
  | .registers => s.resetRegisters

/-- The registers a write changes. -/
def Write.regs : Write → List Reg
  | .bytes _ _ _ => []
  | .det _ => [.status]
  | .bitCnt _ => [.bitCnt]
  | .dims1 _ _ => [.w1, .h1]
  | .hdrLen _ => [.hdrLen]
  | .selection _ _ _ => [.selPos, .selValLo, .selValHi]
  | .registers => writtenRegs .srst

/-- The bytes a write stores. -/
def Write.Stores : Write → MemId → Nat → Prop
  | .bytes id a bs, id', k => id' = id ∧ a ≤ k ∧ k < a + bs.length
  | _, _, _ => False

/-- A write that leaves STATUS.DET alone. -/
def Write.KeepsDet : Write → Prop
  | .det _ => False
  | .registers => False
  | _ => True

/-- The state after all the writes, in their order. -/
def State.applyAll (s : State) (ws : List Write) : State := ws.foldl Write.apply s

/-! ### Frames -/

theorem readReg_storeBytes (s : State) (id : MemId) (a : Nat) (bs : List Byte) (r : Reg) :
    readReg (s.storeBytes id a bs) r = readReg s r := by
  cases r <;> simp [readReg, statusWord, ctrlWord, selPosWord]

namespace State.UnchangedOutside

variable {regs regs' : List Reg} {P P' : MemId → Nat → Prop} {u : State}

theorem refl (s : State) : s.UnchangedOutside regs P s :=
  ⟨fun _ _ => rfl, fun _ _ _ => rfl, rfl, rfl, rfl, rfl⟩

theorem trans (h : s.UnchangedOutside regs P t) (h' : t.UnchangedOutside regs P u) :
    s.UnchangedOutside regs P u where
  registers r hr := (h'.registers r hr).trans (h.registers r hr)
  bytes id k hk := (h'.bytes id k hk).trans (h.bytes id k hk)
  params := h'.params.trans h.params
  resets := h'.resets.trans h.resets
  bus := h'.bus.trans h.bus
  reply := h'.reply.trans h.reply

theorem mono (h : s.UnchangedOutside regs P t) (hregs : ∀ r ∈ regs, r ∈ regs')
    (hP : ∀ id k, P id k → P' id k) : s.UnchangedOutside regs' P' t where
  registers r hr := h.registers r fun hmem => hr (hregs r hmem)
  bytes id k hk := h.bytes id k fun hmem => hk (hP id k hmem)
  params := h.params
  resets := h.resets
  bus := h.bus
  reply := h.reply

/-- A frame that only names registers to be kept: the memories and the model's own fields are the same. -/
theorem of_registers (hr : ∀ r, r ∉ regs → readReg t r = readReg s r)
    (hm : ∀ id k, t.byteAt id k = s.byteAt id k) (hp : t.params = s.params) (hn : t.resets = s.resets)
    (hb : t.bus = s.bus) (ha : t.reply = s.reply) : s.UnchangedOutside regs P t :=
  ⟨hr, fun id k _ => hm id k, hp, hn, hb, ha⟩

end State.UnchangedOutside

theorem State.unchanged_setErr (s : State) (c : ErrCode) (P : MemId → Nat → Prop) :
    s.UnchangedOutside [.status] P (s.setErr c) := by
  refine .of_registers (fun r hr => ?_) (by simp) rfl rfl rfl rfl
  cases r with
  | status => exact absurd (List.mem_singleton_self _) hr
  | _ => rfl

/-- Each write changes the registers and the bytes it is a write of, and nothing else. -/
theorem Write.apply_unchanged (w : Write) (s : State) :
    s.UnchangedOutside w.regs w.Stores (w.apply s) := by
  cases w with
  | bytes id a bs =>
    refine ⟨fun r _ => readReg_storeBytes s id a bs r, fun id' k hk => ?_, ?_, ?_, ?_, ?_⟩
    · exact (State.byteAt_storeBytes s id a bs id' k).trans (if_neg hk)
    all_goals simp [Write.apply]
  | det d =>
    refine .of_registers (fun r hr => ?_) (by simp [Write.apply]) rfl rfl rfl rfl
    cases r with
    | status => simp [Write.regs] at hr
    | _ => rfl
  | bitCnt n =>
    refine .of_registers (fun r hr => ?_) (by simp [Write.apply]) rfl rfl rfl rfl
    cases r with
    | bitCnt => simp [Write.regs] at hr
    | _ => rfl
  | dims1 w h =>
    refine .of_registers (fun r hr => ?_) (by simp [Write.apply]) rfl rfl rfl rfl
    cases r with
    | w1 | h1 => simp [Write.regs] at hr
    | _ => rfl
  | hdrLen v =>
    refine .of_registers (fun r hr => ?_) (by simp [Write.apply]) rfl rfl rfl rfl
    cases r with
    | hdrLen => simp [Write.regs] at hr
    | _ => rfl
  | selection r c v =>
    refine .of_registers (fun r hr => ?_) (by simp [Write.apply]) rfl rfl rfl rfl
    cases r with
    | selPos | selValLo | selValHi => simp [Write.regs] at hr
    | _ => rfl
  | registers =>
    refine .of_registers (fun r hr => ?_) (by simp [Write.apply]) rfl rfl rfl rfl
    cases r with
    | cmd | id => rfl
    | _ => simp [Write.regs, writtenRegs] at hr

/-- Writes that all stay inside a frame leave the rest unchanged. -/
theorem State.unchanged_applyAll {regs : List Reg} {P : MemId → Nat → Prop} {ws : List Write} (s : State)
    (hregs : ∀ w ∈ ws, ∀ r ∈ w.regs, r ∈ regs) (hP : ∀ w ∈ ws, ∀ id k, w.Stores id k → P id k) :
    s.UnchangedOutside regs P (s.applyAll ws) := by
  induction ws generalizing s with
  | nil => exact .refl s
  | cons w ws ih =>
    rw [List.forall_mem_cons] at hregs hP
    exact ((w.apply_unchanged s).mono hregs.1 hP.1).trans (ih (w.apply s) hregs.2 hP.2)

theorem Write.apply_det {w : Write} (h : w.KeepsDet) (s : State) : (w.apply s).det = s.det := by
  cases w with
  | bytes id a bs => exact State.storeBytes_det s id a bs
  | det d => exact h.elim
  | registers => exact h.elim
  | _ => rfl

theorem State.applyAll_det {ws : List Write} (h : ∀ w ∈ ws, w.KeepsDet) (s : State) :
    (s.applyAll ws).det = s.det := by
  induction ws generalizing s with
  | nil => rfl
  | cons w ws ih =>
    rw [List.forall_mem_cons] at h
    exact (ih h.2 (w.apply s)).trans (Write.apply_det h.1 s)

/-! ### The same writes on two states -/

theorem Write.apply_agree (w : Write) (h : s.AgreeOutside p s') : (w.apply s).AgreeOutside p (w.apply s') := by
  unfold State.AgreeOutside at h ⊢
  rw [← h]
  cases w with
  | bytes id a bs => cases p <;> cases id <;> rfl
  | _ => cases p <;> rfl

theorem State.AgreeOutside.setErr (h : s.AgreeOutside p s') (c : ErrCode) :
    (s.setErr c).AgreeOutside p (s'.setErr c) := by
  unfold State.AgreeOutside at h ⊢
  rw [← h]
  cases p <;> rfl

theorem State.AgreeOutside.applyAll (h : s.AgreeOutside p s') (ws : List Write) :
    (s.applyAll ws).AgreeOutside p (s'.applyAll ws) := by
  induction ws generalizing s s' with
  | nil => exact h
  | cons w ws ih => exact ih (w.apply_agree h)

theorem Write.apply_byteAt_of_stores {w : Write} {id : MemId} {k : Nat} (h : w.Stores id k) (s s' : State) :
    (w.apply s').byteAt id k = (w.apply s).byteAt id k := by
  cases w with
  | bytes id' a bs => simp only [Write.apply, State.byteAt_storeBytes, if_pos (show _ ∧ _ ∧ _ from h)]
  | _ => exact h.elim

/-- A byte that some write stores is the same afterwards, whatever the state was before. -/
theorem State.applyAll_byteAt_of_stores {ws : List Write} {id : MemId} {k : Nat}
    (h : ∃ w ∈ ws, w.Stores id k) (s s' : State) :
    (s'.applyAll ws).byteAt id k = (s.applyAll ws).byteAt id k := by
  induction ws generalizing s s' with
  | nil => simp at h
  | cons w ws ih =>
    by_cases hlater : ∃ v ∈ ws, v.Stores id k
    · exact ih hlater _ _
    · have hw : w.Stores id k := by
        rw [List.exists_mem_cons_iff] at h
        exact h.resolve_right hlater
      have hkept : ∀ u : State, (u.applyAll ws).byteAt id k = u.byteAt id k := fun u =>
        (u.unchanged_applyAll (regs := ws.flatMap Write.regs) (P := fun id k => ∃ v ∈ ws, v.Stores id k)
          (fun v hv r hr => List.mem_flatMap.2 ⟨v, hv, hr⟩) (fun v hv _ _ hs => ⟨v, hv, hs⟩)).bytes id k hlater
      calc ((w.apply s').applyAll ws).byteAt id k = (w.apply s').byteAt id k := hkept _
        _ = (w.apply s).byteAt id k := Write.apply_byteAt_of_stores hw s s'
        _ = ((w.apply s).applyAll ws).byteAt id k := (hkept _).symm

/-! ### The scans of the extractors stop at their limits -/

theorem length_diffScan_le_limit (w limit : Nat) (c0 c1 : List Int) (blks : List (Nat × Nat)) {cnt : Nat}
    (h : cnt ≤ limit) : cnt + (diffScan w limit c0 c1 blks cnt).length ≤ limit := by
  induction blks generalizing cnt with
  | nil => simpa [diffScan] using h
  | cons blk rest ih =>
    simp only [diffScan]
    split
    · simpa using h
    · next hne =>
      split
      · have hrest := ih (cnt := cnt + 1) (by omega)
        rw [List.length_cons]
        omega
      · exact ih h

theorem length_selfScan_le_limit (w n : Nat) (c : List Int) (blks : List (Nat × Nat)) {cnt : Nat}
    (h : cnt ≤ n) : cnt + (selfScan w n c blks cnt).length ≤ n := by
  induction blks generalizing cnt with
  | nil => simpa [selfScan] using h
  | cons blk rest ih =>
    simp only [selfScan]
    split
    · simpa using h
    · next hne =>
      have hrest := ih (cnt := cnt + 1) (by omega)
      rw [List.length_cons]
      omega

theorem State.diffLimit_lt (s : State) : s.diffLimit < 2 ^ 32 := by
  unfold State.diffLimit
  split
  · decide
  · exact s.msgLen.isLt

/-- XDIFF decodes fewer than 2^32 bits, whatever the parameters are: BITCNT can hold their number. -/
theorem State.length_diffScan_lt (s : State) (w : Nat) (c0 c1 : List Int) (blks : List (Nat × Nat)) :
    (diffScan w s.diffLimit c0 c1 blks 0).length < 2 ^ 32 := by
  have hle := length_diffScan_le_limit w s.diffLimit c0 c1 blks (Nat.zero_le _)
  have hlt := s.diffLimit_lt
  omega

/-- XSELF decodes fewer than 2^32 bits, whatever the parameters are. -/
theorem State.length_selfScan_lt (s : State) (w : Nat) (c : List Int) (blks : List (Nat × Nat)) :
    (selfScan w s.msgLen.toNat c blks 0).length < 2 ^ 32 := by
  have hle := length_selfScan_le_limit w s.msgLen.toNat c blks (Nat.zero_le _)
  have hlt := s.msgLen.isLt
  omega

/-! ### Two runs of one command -/

/-- The writes of a run of `i` from `s` that completes are those of the table of 10_state.md R45. -/
structure WritesTable (i : Instr) (s : State) (ws : List Write) : Prop where
  regs : ∀ w ∈ ws, ∀ r ∈ w.regs, r ∈ writtenRegs i
  det : i ≠ .srst → i ≠ .mdetect → ∀ w ∈ ws, w.KeepsDet
  bytes : ∀ id k, writtenBytes i s (s.applyAll ws) id k ↔ ∃ w ∈ ws, w.Stores id k

/-- In `s` and in `s'` the command makes the same writes and ends with the same code: a fault's and no write
(60_exceptions.md R203), or the writes of the table. -/
def RunsAlike (i : Instr) (s s' : State) : Prop :=
  ∃ ws c, exec i s = .next ((s.applyAll ws).setErr c) ∧ exec i s' = .next ((s'.applyAll ws).setErr c) ∧
    ((ws = [] ∧ c ≠ .ok ∧ c ≠ .ident) ∨ WritesTable i s ws)

theorem execNop_runsAlike (s s' : State) : RunsAlike .nop s s' :=
  ⟨[], .ok, rfl, rfl, .inr ⟨by simp, by simp, by simp [writtenBytes]⟩⟩

theorem execSrst_runsAlike (s s' : State) : RunsAlike .srst s s' :=
  ⟨[.registers], .ok, rfl, rfl, .inr ⟨by simp [Write.regs], by simp, by simp [writtenBytes, Write.Stores]⟩⟩

theorem execFdct_runsAlike {b : Bank} (hs : s.SameOperands (.fdct b) s') : RunsAlike (.fdct b) s s' := by
  unfold RunsAlike
  simp only [exec, execFdct, hs.params, hs.width, hs.height, hs.transformOf]
  by_cases hd : dimsOK s.params (s.width b) (s.height b)
  · simp only [if_pos hd]
    exact ⟨[.bytes (coefId b) 0 (coefBytes (s.transformOf b (s.width b) (s.height b)))], .ok, rfl, rfl,
      .inr ⟨by simp [Write.regs], by simp [Write.KeepsDet], by simp [writtenBytes, Write.Stores]⟩⟩
  · simp only [if_neg hd]
    exact ⟨[], .dimInv, rfl, rfl, .inl ⟨rfl, by decide, by decide⟩⟩

theorem execIdct_runsAlike {b : Bank} (hs : s.SameOperands (.idct b) s') : RunsAlike (.idct b) s s' := by
  have hr : Part.results.ReadBy (.idct b) := ⟨b, .inl rfl⟩
  unfold RunsAlike
  simp only [exec, execIdct, hs.params, hs.width, hs.height, hs.coefPlane hr]
  by_cases hd : dimsOK s.params (s.width b) (s.height b)
  · simp only [if_pos hd]
    exact ⟨[.bytes (pixId b) 0 (pixBytes (idctPlane (s.coefPlane b (s.width b * s.height b)) (s.width b)
      (s.height b)))], .ok, rfl, rfl,
      .inr ⟨by simp [Write.regs], by simp [Write.KeepsDet], by simp [writtenBytes, Write.Stores]⟩⟩
  · simp only [if_neg hd]
    exact ⟨[], .dimInv, rfl, rfl, .inl ⟨rfl, by decide, by decide⟩⟩

theorem execSel_runsAlike {b : Bank} (hs : s.SameOperands (.sel b) s') : RunsAlike (.sel b) s s' := by
  have hr : Part.results.ReadBy (.sel b) := ⟨b, .inr rfl⟩
  have hb : Part.block.ReadBy (.sel b) := ⟨b, rfl⟩
  unfold RunsAlike
  simp only [exec, execSel, hs.params, hs.width, hs.height, hs.blkY hb, hs.blkX hb, hs.coefAt hr, hs.coefWord hr]
  by_cases hd : dimsOK s.params (s.width b) (s.height b)
  · simp only [if_pos hd]
    by_cases hg : s.height b / 8 ≤ s.blkY.toNat ∨ s.width b / 8 ≤ s.blkX.toNat
    · simp only [if_pos hg]
      exact ⟨[], .blkRng, rfl, rfl, .inl ⟨rfl, by decide, by decide⟩⟩
    · simp only [if_neg hg]
      exact ⟨[.selection _ _ _], .ok, rfl, rfl,
        .inr ⟨by simp [Write.regs, writtenRegs], by simp [Write.KeepsDet], by simp [writtenBytes, Write.Stores]⟩⟩
  · simp only [if_neg hd]
    exact ⟨[], .dimInv, rfl, rfl, .inl ⟨rfl, by decide, by decide⟩⟩

theorem execEmbed_runsAlike (hs : s.SameOperands .embed s') : RunsAlike .embed s s' := by
  unfold RunsAlike
  simp only [exec, execEmbed, State.messageOK, hs.params, hs.width, hs.height, hs.msgLen, hs.msgIn, hs.w0, hs.h0,
    hs.embedded rfl]
  by_cases hd : dimsOK s.params (s.width .zero) (s.height .zero)
  · simp only [if_pos hd]
    by_cases hm : s.messageOK (min s.msgLen.toNat (capacity (s.width .zero) (s.height .zero)))
    · simp only [if_pos hm]
      exact ⟨[.bytes .coef0 0 _, .bytes .pix1 0 _, .dims1 _ _, .bitCnt _], .ok, rfl, rfl,
        .inr ⟨by simp [Write.regs, writtenRegs], by simp [Write.KeepsDet],
          by simp [writtenBytes, Write.Stores, State.length_embedded]⟩⟩
    · simp only [if_neg hm]
      exact ⟨[], .msgFmt, rfl, rfl, .inl ⟨rfl, by decide, by decide⟩⟩
  · simp only [if_neg hd]
    exact ⟨[], .dimInv, rfl, rfl, .inl ⟨rfl, by decide, by decide⟩⟩

theorem execXdiff_runsAlike (hs : s.SameOperands .xdiff s') : RunsAlike .xdiff s s' := by
  unfold RunsAlike
  simp only [exec, execXdiff, hs.params, hs.width, hs.height, hs.transformOf, hs.w0, hs.h0, hs.w1, hs.h1,
    hs.diffLimit rfl]
  by_cases hm : s.w0 ≠ s.w1 ∨ s.h0 ≠ s.h1
  · simp only [if_pos hm]
    exact ⟨[], .dimMis, rfl, rfl, .inl ⟨rfl, by decide, by decide⟩⟩
  · simp only [if_neg hm]
    by_cases hd : dimsOK s.params (s.width .zero) (s.height .zero)
    · simp only [if_pos hd]
      have hlt := s.length_diffScan_lt (s.width .zero) (s.transformOf .zero (s.width .zero) (s.height .zero))
        (s.transformOf .one (s.width .zero) (s.height .zero)) (rasterBlocks (s.width .zero) (s.height .zero))
      generalize diffScan _ _ _ _ _ _ = bits at hlt ⊢
      have hcount : bits.length % 4294967296 = bits.length := Nat.mod_eq_of_lt hlt
      exact ⟨[.bytes .coef0 0 (coefBytes _), .bytes .coef1 0 (coefBytes _), .bytes .msgOut 0 bits,
        .bitCnt bits.length], _, rfl, rfl,
        .inr ⟨by simp [Write.regs, writtenRegs], by simp [Write.KeepsDet], by
          simp [writtenBytes, Write.Stores, State.applyAll, Write.apply, hcount, or_and_right, or_assoc,
            exists_or]⟩⟩
    · simp only [if_neg hd]
      exact ⟨[], .dimInv, rfl, rfl, .inl ⟨rfl, by decide, by decide⟩⟩

theorem execXself_runsAlike {b : Bank} (hs : s.SameOperands (.xself b) s') : RunsAlike (.xself b) s s' := by
  unfold RunsAlike
  simp only [exec, execXself, hs.params, hs.width, hs.height, hs.transformOf, hs.msgLen]
  by_cases hd : dimsOK s.params (s.width b) (s.height b)
  · simp only [if_pos hd]
    have hlt := s.length_selfScan_lt (s.width b) (s.transformOf b (s.width b) (s.height b))
      (rasterBlocks (s.width b) (s.height b))
    generalize selfScan _ _ _ _ _ = bits at hlt ⊢
    have hcount : bits.length % 4294967296 = bits.length := Nat.mod_eq_of_lt hlt
    exact ⟨[.bytes (coefId b) 0 (coefBytes _), .bytes .msgOut 0 bits, .bitCnt bits.length], .ok, rfl, rfl,
      .inr ⟨by simp [Write.regs, writtenRegs], by simp [Write.KeepsDet], by
        simp [writtenBytes, Write.Stores, State.applyAll, Write.apply, hcount]⟩⟩
  · simp only [if_neg hd]
    exact ⟨[], .dimInv, rfl, rfl, .inl ⟨rfl, by decide, by decide⟩⟩

theorem execMpatch_runsAlike (hs : s.SameOperands .mpatch s') : RunsAlike .mpatch s s' := by
  unfold RunsAlike
  simp only [exec, execMpatch, State.fileOK, hs.params, hs.fileLen, hs.hdrLen]
  by_cases hf : s.fileOK
  · simp only [if_pos hf]
    refine ⟨[.bytes .file 6 _], .ok, rfl, rfl,
      .inr ⟨by simp [Write.regs], by simp [Write.KeepsDet], fun id k => ?_⟩⟩
    simp only [writtenBytes, List.mem_singleton, exists_eq_left, Write.Stores, length_leBytes, Config.headerSize]
    exact and_congr_right fun _ => by omega
  · simp only [if_neg hf]
    exact ⟨[], .fileRng, rfl, rfl, .inl ⟨rfl, by decide, by decide⟩⟩

theorem execMdetect_runsAlike (hs : s.SameOperands .mdetect s') : RunsAlike .mdetect s s' := by
  unfold RunsAlike
  simp only [exec, execMdetect, State.fileOK, hs.params, hs.fileLen, hs.headerBytes]
  by_cases hf : s.fileOK
  · simp only [if_pos hf]
    exact ⟨[.det _], .ok, rfl, rfl,
      .inr ⟨by simp [Write.regs, writtenRegs], by simp, by simp [writtenBytes, Write.Stores]⟩⟩
  · simp only [if_neg hf]
    exact ⟨[], .fileRng, rfl, rfl, .inl ⟨rfl, by decide, by decide⟩⟩

theorem execMread_runsAlike (hs : s.SameOperands .mread s') : RunsAlike .mread s s' := by
  unfold RunsAlike
  simp only [exec, execMread, State.fileOK, hs.params, hs.fileLen, hs.headerValue]
  by_cases hf : s.fileOK
  · simp only [if_pos hf]
    exact ⟨[.hdrLen _], .ok, rfl, rfl,
      .inr ⟨by simp [Write.regs, writtenRegs], by simp [Write.KeepsDet], by simp [writtenBytes, Write.Stores]⟩⟩
  · simp only [if_neg hf]
    exact ⟨[], .fileRng, rfl, rfl, .inl ⟨rfl, by decide, by decide⟩⟩

/-- Two states with the same operands lead every command to the same writes and the same code. -/
theorem exec_runsAlike (hs : s.SameOperands i s') : RunsAlike i s s' := by
  cases i with
  | nop => exact execNop_runsAlike s s'
  | srst => exact execSrst_runsAlike s s'
  | fdct b => exact execFdct_runsAlike hs
  | idct b => exact execIdct_runsAlike hs
  | sel b => exact execSel_runsAlike hs
  | embed => exact execEmbed_runsAlike hs
  | xdiff => exact execXdiff_runsAlike hs
  | xself b => exact execXself_runsAlike hs
  | mpatch => exact execMpatch_runsAlike hs
  | mdetect => exact execMdetect_runsAlike hs
  | mread => exact execMread_runsAlike hs

/-! ### What follows for one run -/

theorem status_mem_writtenRegs (i : Instr) : Reg.status ∈ writtenRegs i := by
  cases i <;> simp [writtenRegs]

/-- The table names the bytes of MSGOUT by the final BITCNT, so STATUS does not matter to it. -/
theorem writtenBytes_setErr (i : Instr) (s t : State) (c : ErrCode) :
    writtenBytes i s (t.setErr c) = writtenBytes i s t := by
  cases i <;> rfl

theorem exec_unchanged (h : exec i s = .next t) : s.UnchangedOutside (writtenRegs i) (writtenBytes i s t) t := by
  obtain ⟨ws, c, hrun, -, hws⟩ := exec_runsAlike (.refl i s)
  obtain rfl : t = (s.applyAll ws).setErr c := Host.Outcome.next.inj (h.symm.trans hrun)
  have herr := (s.applyAll ws).unchanged_setErr c (writtenBytes i s ((s.applyAll ws).setErr c))
  refine .trans ?_ (herr.mono (by simp [status_mem_writtenRegs]) fun _ _ hk => hk)
  obtain ⟨rfl, -⟩ | htable := hws
  · exact .refl s
  · refine s.unchanged_applyAll htable.regs fun w hw id k hk => ?_
    rw [writtenBytes_setErr]
    exact (htable.bytes id k).2 ⟨w, hw, hk⟩

theorem exec_det (h : exec i s = .next t) (hsrst : i ≠ .srst) (hmdetect : i ≠ .mdetect) : t.det = s.det := by
  obtain ⟨ws, c, hrun, -, hws⟩ := exec_runsAlike (.refl i s)
  obtain rfl : t = (s.applyAll ws).setErr c := Host.Outcome.next.inj (h.symm.trans hrun)
  rw [State.setErr_det]
  obtain ⟨rfl, -⟩ | htable := hws
  · rfl
  · exact State.applyAll_det (htable.det hsrst hmdetect) s

/-! ### What follows for two runs -/

/-- NONINTERFERENCE. Changing a part of the state that a command does not read leads to the same next state but for
that part; the code is the same, and so are the bytes written by a command that does not fault. -/
theorem exec_agree (h : exec i s = .next t) (hp : ¬ p.ReadBy i) (hs : s.AgreeOutside p s') :
    ∃ t', exec i s' = .next t' ∧ t.AgreeOutside p t' ∧ t'.err = t.err ∧
      (t.err = .ok ∨ t.err = .ident → ∀ id k, writtenBytes i s t id k → t'.byteAt id k = t.byteAt id k) := by
  obtain ⟨ws, c, hrun, hrun', hws⟩ := exec_runsAlike (hs.sameOperands hp)
  obtain rfl : t = (s.applyAll ws).setErr c := Host.Outcome.next.inj (h.symm.trans hrun)
  refine ⟨_, hrun', (hs.applyAll ws).setErr c, rfl, fun hc id k hk => ?_⟩
  rw [State.setErr_err] at hc
  obtain ⟨-, hok, hident⟩ | htable := hws
  · exact absurd hc (not_or.2 ⟨hok, hident⟩)
  · rw [writtenBytes_setErr] at hk
    rw [State.setErr_byteAt, State.setErr_byteAt]
    exact State.applyAll_byteAt_of_stores ((htable.bytes id k).1 hk) s s'

/-- A stale error code changes nothing at all, since every command writes STATUS.ERR. -/
theorem exec_setErr (h : exec i s = .next t) (c : ErrCode) : exec i (s.setErr c) = .next t := by
  obtain ⟨t', hrun, hagree, herr, -⟩ := exec_agree (s' := s.setErr c) (p := .err) h not_false rfl
  have ht : t'.setErr t.err = t := hagree
  rw [hrun, ← ht, ← herr]
  rfl

end Sys2Proof.Machine

namespace Sys2Proof.Proofs

open Sys2Proof.Machine

/-- Settles O43: no command reads STATUS (`Part.ReadBy`), and every command writes STATUS.ERR. -/
theorem statusIsNeverRead : Obligations.StatusIsNeverRead := by
  unfold Obligations.StatusIsNeverRead
  intro i s t c d h
  obtain ⟨t', hrun, hagree, -⟩ := exec_agree (s' := s.setDet d) (p := .det) h not_false rfl
  exact ⟨exec_setErr h c, t', hrun, hagree, exec_det hrun⟩

/-- Settles O44: the writes of every run are those of the table, and those of a fault are none. -/
theorem commandsWriteOnlyTheirTable : Obligations.CommandsWriteOnlyTheirTable := by
  unfold Obligations.CommandsWriteOnlyTheirTable
  exact fun _ _ _ h => ⟨exec_unchanged h, exec_det h⟩

/-- Settles O45: the coefficient memories are read by IDCT and SEL alone, MSGOUT by no command. -/
theorem staleMemoriesDoNotMatter : Obligations.StaleMemoriesDoNotMatter := by
  unfold Obligations.StaleMemoriesDoNotMatter
  refine ⟨fun i s t m₀ m₁ m₂ hi h => ?_, fun i s t m h => ?_⟩
  · have hp : ¬ Part.results.ReadBy i := fun ⟨b, hb⟩ => hb.elim (hi b).1 (hi b).2
    obtain ⟨t', hrun, hagree, -, hbytes⟩ :=
      exec_agree (s' := { s with coef0 := m₀, coef1 := m₁, msgOut := m₂ }) h hp rfl
    exact ⟨t', hrun, hagree, hbytes⟩
  · obtain ⟨t', hrun, hagree, -, hbytes⟩ := exec_agree (s' := { s with msgOut := m }) (p := .msgOut) h not_false rfl
    exact ⟨t', hrun, hagree, hbytes⟩

/-- Settles O46: CTRL, ALPHA and the block coordinates are each read by one command (`Part.ReadBy`). -/
theorem operandRegistersHaveOneReader : Obligations.OperandRegistersHaveOneReader := by
  unfold Obligations.OperandRegistersHaveOneReader
  refine fun i s t h => ⟨fun f hi => ?_, fun lo hi hne => ?_, fun y x hi => ?_⟩
  · obtain ⟨t', hrun, hagree, -⟩ := exec_agree (s' := { s with forced := f }) (p := .ctrl) h hi rfl
    exact ⟨t', hrun, hagree⟩
  · obtain ⟨t', hrun, hagree, -⟩ :=
      exec_agree (s' := { s with alphaLo := lo, alphaHi := hi }) (p := .alpha) h hne rfl
    exact ⟨t', hrun, hagree⟩
  · have hp : ¬ Part.block.ReadBy i := fun ⟨b, hb⟩ => hi b hb
    obtain ⟨t', hrun, hagree, -⟩ := exec_agree (s' := { s with blkY := y, blkX := x }) h hp rfl
    exact ⟨t', hrun, hagree⟩

end Sys2Proof.Proofs

/-! PROOF. One access of the host (20_memory.md R66 to R68): which accesses the bus admits, what an admitted read
answers, what an admitted write stores and what it leaves alone. Settles O7, O8 and O9. -/

namespace Sys2Proof.Machine

variable {s : State} {rest : List BusEvent} {p : Config.Params} {addr : Word} {n off : Nat}

/-! ### The address map, from the address to what it reaches -/

theorem addrRegion_eq (addr : Word) : addrRegion addr = addr.toNat / 2 ^ 28 := by
  have hlt := addr.isLt
  rw [addrRegion, BitVec.extractLsb'_toNat, Nat.shiftRight_eq_div_pow]
  omega

theorem addrOffset_eq (addr : Word) : addrOffset addr = addr.toNat % 2 ^ 28 := by
  rw [addrOffset, BitVec.extractLsb'_toNat, Nat.shiftRight_zero]

theorem addrRegion_of_add {r : Nat} (ha : addr.toNat = r * 2 ^ 28 + off) (hoff : off < 2 ^ 28) :
    addrRegion addr = r := by
  rw [addrRegion_eq, ha]
  omega

theorem addrOffset_of_add {r : Nat} (ha : addr.toNat = r * 2 ^ 28 + off) (hoff : off < 2 ^ 28) :
    addrOffset addr = off := by
  rw [addrOffset_eq, ha]
  omega

theorem byteTarget_isSome_iff {id : MemId} :
    (byteTarget p id n off).isSome ↔ n = 1 ∧ off < memSize p id := by
  rw [byteTarget, Option.isSome_ite]

theorem halfTarget_isSome_iff {b : Bank} :
    (halfTarget p b n off).isSome ↔ n = 4 ∧ off % 4 = 0 ∧ off < memSize p (coefId b) := by
  rw [halfTarget, Option.isSome_ite]

/-- The last of the nineteen registers is at offset 0x48. -/
theorem registerTarget_isSome_iff : (registerTarget n off).isSome ↔ n = 4 ∧ off % 4 = 0 ∧ off ≤ 0x48 := by
  have hlen : registers.length = 19 := rfl
  rw [registerTarget]
  split
  · next hc =>
    rw [Option.isSome_map, isSome_getElem?, hlen]
    omega
  · next hc => simpa using fun h4 hal => absurd ⟨h4, hal⟩ hc

/-- An access reaches something exactly when it is admitted, region by region (20_memory.md R66). -/
theorem busTarget_isSome_iff : (busTarget p addr n).isSome ↔ admitted p addr n := by
  rw [busTarget, admitted, ← addrRegion_eq, ← addrOffset_eq]
  split
  · next h => simp [h, registerTarget_isSome_iff]
  · next h => simp [h, byteTarget_isSome_iff, memSize]
  · next h => simp [h, byteTarget_isSome_iff, memSize]
  · next h => simp [h, halfTarget_isSome_iff, memSize, coefId]
  · next h => simp [h, halfTarget_isSome_iff, memSize, coefId]
  · next h => simp [h, byteTarget_isSome_iff, memSize]
  · next h => simp [h, byteTarget_isSome_iff, memSize]
  · next h => simp [h, byteTarget_isSome_iff, memSize]
  · simp_all

theorem busTarget_eq_none_iff : busTarget p addr n = none ↔ ¬ admitted p addr n := by
  rw [← busTarget_isSome_iff, Option.not_isSome_iff_eq_none]

theorem busTarget_register {r : Reg} (ha : addr.toNat = 4 * regNumber r) :
    busTarget p addr 4 = some (.register r) := by
  rw [← busTarget_regNumber p r, ← ha, BitVec.ofNat_toNat, BitVec.setWidth_eq]

theorem register_ne_cmd_of_mem {r : Reg} {regs : List Reg} (hr : r ∈ regs) (hcmd : Reg.cmd ∉ regs) :
    BusTarget.register r ≠ .register .cmd := by
  rintro ⟨⟩
  exact hcmd hr

theorem byteTarget_of_lt {id : MemId} (hoff : off < memSize p id) :
    byteTarget p id 1 off = some (.byte id off) := if_pos ⟨rfl, hoff⟩

theorem busTarget_byte {id : MemId} (hid : id ∈ byteMemories) (ha : addr.toNat = memBase id + off)
    (hoff : off < memSize p id) (hlt : off < 2 ^ 28) : busTarget p addr 1 = some (.byte id off) := by
  rw [← byteTarget_of_lt hoff]
  simp only [byteMemories, List.mem_cons, List.not_mem_nil, or_false] at hid
  obtain rfl | rfl | rfl | rfl | rfl := hid
  · simp only [busTarget, addrRegion_of_add (r := 1) ha hlt, addrOffset_of_add (r := 1) ha hlt]
  · simp only [busTarget, addrRegion_of_add (r := 2) ha hlt, addrOffset_of_add (r := 2) ha hlt]
  · simp only [busTarget, addrRegion_of_add (r := 5) ha hlt, addrOffset_of_add (r := 5) ha hlt]
  · simp only [busTarget, addrRegion_of_add (r := 6) ha hlt, addrOffset_of_add (r := 6) ha hlt]
  · simp only [busTarget, addrRegion_of_add (r := 7) ha hlt, addrOffset_of_add (r := 7) ha hlt]

theorem halfTarget_of_lt {b : Bank} (hal : off % 4 = 0) (hoff : off < 8 * p.maxPix) :
    halfTarget p b 4 off = some (.half b off) := if_pos ⟨rfl, hal, by rwa [memSize_coefId]⟩

theorem busTarget_half {b : Bank} (ha : addr.toNat = memBase (coefId b) + off) (hal : off % 4 = 0)
    (hoff : off < 8 * p.maxPix) (hlt : off < 2 ^ 28) : busTarget p addr 4 = some (.half b off) := by
  rw [← halfTarget_of_lt hal hoff]
  cases b with
  | zero => simp only [busTarget, addrRegion_of_add (r := 3) ha hlt, addrOffset_of_add (r := 3) ha hlt]
  | one => simp only [busTarget, addrRegion_of_add (r := 4) ha hlt, addrOffset_of_add (r := 4) ha hlt]

/-! ### The two halves of a coefficient (20_memory.md R64) -/

/-- The 32-bit word at a byte offset of COEFb, least significant byte first. -/
def State.coefHalf (s : State) (b : Bank) (off : Nat) : Word :=
  BitVec.ofNat 32 (leValue ((List.range 4).map fun k => s.byteAt (coefId b) (off + k)))

theorem leValue_append (xs ys : List Byte) :
    leValue (xs ++ ys) = leValue xs + 2 ^ (8 * xs.length) * leValue ys := by
  induction xs with
  | nil => simp [leValue]
  | cons x xs ih =>
    rw [List.cons_append, leValue, leValue, ih, List.length_cons]
    ring

theorem leValue_lt (xs : List Byte) : leValue xs < 2 ^ (8 * xs.length) := by
  induction xs with
  | nil => simp [leValue]
  | cons x xs ih =>
    have hx := x.isLt
    rw [leValue, List.length_cons, Nat.mul_add, Nat.pow_add]
    omega

/-- The half at the lower offset is the low one. -/
theorem State.coefWord_eq_append (s : State) (b : Bank) (i : Nat) :
    s.coefWord b i = s.coefHalf b (8 * i + 4) ++ s.coefHalf b (8 * i) := by
  have hsplit : (List.range 8).map (fun k => s.byteAt (coefId b) (8 * i + k)) =
      (List.range 4).map (fun k => s.byteAt (coefId b) (8 * i + k)) ++
        (List.range 4).map (fun k => s.byteAt (coefId b) (8 * i + 4 + k)) := rfl
  have hlo := leValue_lt ((List.range 4).map fun k => s.byteAt (coefId b) (8 * i + k))
  have hhi := leValue_lt ((List.range 4).map fun k => s.byteAt (coefId b) (8 * i + 4 + k))
  rw [List.length_map, List.length_range] at hlo hhi
  apply BitVec.eq_of_toNat_eq
  rw [State.coefWord, hsplit, leValue_append, List.length_map, List.length_range, State.coefHalf, State.coefHalf,
    BitVec.toNat_append, BitVec.toNat_ofNat, BitVec.toNat_ofNat, BitVec.toNat_ofNat,
    ← Nat.shiftLeft_add_eq_or_of_lt (Nat.mod_lt _ (by decide)), Nat.shiftLeft_eq]
  omega

theorem State.coefWord_low (s : State) (b : Bank) (i : Nat) :
    (s.coefWord b i).extractLsb' 0 32 = s.coefHalf b (8 * i) := by
  rw [State.coefWord_eq_append]
  exact BitVec.extractLsb'_append_eq_right

theorem State.coefWord_high (s : State) (b : Bank) (i : Nat) :
    (s.coefWord b i).extractLsb' 32 32 = s.coefHalf b (8 * i + 4) := by
  rw [State.coefWord_eq_append]
  exact BitVec.extractLsb'_append_eq_left

theorem State.coefHalf_store_same (s : State) (b : Bank) (off : Nat) (v : Word) :
    (s.storeBytes (coefId b) off (leBytes 4 v.toNat)).coefHalf b off = v := by
  have hbytes : (List.range 4).map (fun k =>
      (s.storeBytes (coefId b) off (leBytes 4 v.toNat)).byteAt (coefId b) (off + k)) = leBytes 4 v.toNat := by
    refine List.map_congr_left fun k hk => ?_
    have hk := List.mem_range.1 hk
    rw [State.byteAt_storeBytes, if_pos ⟨rfl, by omega, by simpa using hk⟩, Nat.add_sub_cancel_left, List.getD,
      leBytes_getElem?, if_pos hk, Option.getD_some]
  rw [State.coefHalf, hbytes, leValue_leBytes, Nat.mod_eq_of_lt v.isLt, BitVec.ofNat_toNat, BitVec.setWidth_eq]

theorem State.coefHalf_store_disjoint (s : State) (b : Bank) {off' : Nat} (v : Word)
    (hd : off' + 4 ≤ off ∨ off + 4 ≤ off') :
    (s.storeBytes (coefId b) off (leBytes 4 v.toNat)).coefHalf b off' = s.coefHalf b off' := by
  have hbytes : ∀ k ∈ List.range 4,
      (s.storeBytes (coefId b) off (leBytes 4 v.toNat)).byteAt (coefId b) (off' + k) =
        s.byteAt (coefId b) (off' + k) := fun k hk => by
    have hk := List.mem_range.1 hk
    rw [State.byteAt_storeBytes, length_leBytes, if_neg (by omega)]
  rw [State.coefHalf, List.map_congr_left hbytes, State.coefHalf]

/-- Storing one half of a coefficient replaces that half and keeps the other. -/
theorem State.coefWord_store_half (s : State) (b : Bank) (v : Word) (hal : off % 4 = 0) :
    (s.storeBytes (coefId b) off (leBytes 4 v.toNat)).coefWord b (off / 8) =
      if off % 8 = 0 then (s.coefWord b (off / 8)).extractLsb' 32 32 ++ v
      else v ++ (s.coefWord b (off / 8)).extractLsb' 0 32 := by
  rw [State.coefWord_low, State.coefWord_high, State.coefWord_eq_append]
  split
  · next h8 =>
    have hoff : 8 * (off / 8) = off := by omega
    rw [hoff, State.coefHalf_store_same, State.coefHalf_store_disjoint _ _ _ (.inr le_rfl)]
  · next h8 =>
    have hoff : 8 * (off / 8) + 4 = off := by omega
    rw [hoff, State.coefHalf_store_same, State.coefHalf_store_disjoint _ _ _ (.inl hoff.le)]

/-! ### What a register write and a target's write do -/

theorem readReg_writeReg_plain {r : Reg} (hr : r ∈ plainRegs) (s : State) (v : Word) :
    readReg (writeReg s v r) r = v := by
  simp only [plainRegs, List.mem_cons, List.not_mem_nil, or_false] at hr
  obtain rfl | rfl | rfl | rfl | rfl | rfl | rfl | rfl | rfl | rfl | rfl := hr <;> rfl

theorem readReg_writeReg_ctrl (s : State) (v : Word) : readReg (writeReg s v .ctrl) .ctrl = v &&& 1 := by
  calc ctrlWord (writeReg s v .ctrl) = if v.getLsbD 0 then 1 else 0 := ctrlWord_eq _
    _ = (BitVec.ofBool (v.getLsbD 0)).setWidth 32 := by cases v.getLsbD 0 <;> rfl
    _ = v &&& 1 := BitVec.and_one_eq_setWidth_ofBool_getLsbD.symm

/-- No two registers share storage (10_state.md R23). -/
theorem readReg_writeReg_ne {r r' : Reg} (h : r' ≠ r) (s : State) (v : Word) :
    readReg (writeReg s v r) r' = readReg s r' := by
  cases r <;> cases r' <;> first | rfl | exact absurd rfl h

theorem writeReg_mem (s : State) (v : Word) (r : Reg) (id : MemId) : (writeReg s v r).mem id = s.mem id := by
  cases r <;> cases id <;> rfl

theorem writeReg_resets (s : State) (v : Word) (r : Reg) : (writeReg s v r).resets = s.resets := by
  cases r <;> rfl

theorem writeReg_unchanged (s : State) (v : Word) (r : Reg) :
    s.UnchangedOutside [r] noByte (writeReg s v r) := by
  refine .of_registers (fun r' hr => readReg_writeReg_ne (List.ne_of_not_mem_cons hr) s v) (fun id k => ?_) ?_
    (writeReg_resets s v r) ?_ ?_
  · rw [State.byteAt, writeReg_mem, writeReg_resets, State.byteAt]
  all_goals cases r <;> rfl

/-- The registers an admitted write changes. -/
def BusTarget.regs : BusTarget → List Reg
  | .register r => [r]
  | .byte _ _ => []
  | .half _ _ => []

/-- The bytes an admitted write stores. -/
def BusTarget.Stores : BusTarget → MemId → Nat → Prop
  | .register _ => noByte
  | .byte id off => fun id' k => id' = id ∧ k = off
  | .half b off => fun id' k => id' = coefId b ∧ off ≤ k ∧ k < off + 4

/-- R67: an admitted write changes what its address names and nothing else. -/
theorem writeTarget_unchanged (s : State) (v : Word) (tg : BusTarget) :
    s.UnchangedOutside tg.regs tg.Stores (writeTarget s v tg) := by
  cases tg with
  | register r => exact writeReg_unchanged s v r
  | byte id off =>
    refine (Write.apply_unchanged (.bytes id off [v.extractLsb' 0 8]) s).mono (fun _ hr => hr) ?_
    rintro id' k ⟨hid, hle, hlt⟩
    exact ⟨hid, by simp at hlt; omega⟩
  | half b off =>
    refine (Write.apply_unchanged (.bytes (coefId b) off (leBytes 4 v.toNat)) s).mono (fun _ hr => hr) ?_
    rintro id' k ⟨hid, hle, hlt⟩
    exact ⟨hid, hle, by rwa [length_leBytes] at hlt⟩

theorem writeTarget_answer (s : State) (a : BusReply) (v : Word) (tg : BusTarget) :
    (writeTarget s v tg).answer a = writeTarget (s.answer a) v tg := by
  cases tg with
  | register r => cases r <;> rfl
  | byte id off => cases id <;> rfl
  | half b off => cases b <;> rfl

/-- A byte write stores the whole of its datum, which has 8 bits. -/
theorem writeTarget_byte_toNat {v : Word} (hv : v.toNat < 2 ^ 8) (s : State) (id : MemId) (off : Nat) :
    ((writeTarget s v (.byte id off)).byteAt id off).toNat = v.toNat := by
  have hbyte : (writeTarget s v (.byte id off)).byteAt id off = v.extractLsb' 0 8 := by
    rw [writeTarget, State.byteAt_storeBytes, if_pos ⟨rfl, le_rfl, by simp⟩]
    simp
  rw [hbyte, BitVec.extractLsb'_toNat, Nat.shiftRight_zero, Nat.mod_eq_of_lt hv]

@[simp] theorem State.setBus_coefWord (s : State) (rest : List BusEvent) (b : Bank) (i : Nat) :
    (s.setBus rest).coefWord b i = s.coefWord b i := by
  simp [State.coefWord]

@[simp] theorem State.answer_coefWord (s : State) (a : BusReply) (b : Bank) (i : Nat) :
    (s.answer a).coefWord b i = s.coefWord b i := by
  simp [State.coefWord]

theorem readTarget_setBus (s : State) (rest : List BusEvent) (tg : BusTarget) :
    readTarget (s.setBus rest) tg = readTarget s tg := by
  cases tg with
  | register r => cases r <;> rfl
  | byte id off => rw [readTarget, readTarget, State.setBus_byteAt]
  | half b off => rw [readTarget, readTarget, State.setBus_coefWord]

/-! ### The step at an access -/

theorem step_readTarget {tg : BusTarget} (hb : s.bus = .read addr n :: rest)
    (ht : busTarget s.params addr n = some tg) :
    step s = .next ((s.setBus rest).answer (.data (readTarget s tg))) := by
  simp only [step, hb, busEffect, State.setBus_params, ht, readTarget_setBus]

theorem step_writeTarget {v : Word} {tg : BusTarget} (hb : s.bus = .write addr n v :: rest)
    (ht : busTarget s.params addr n = some tg) (hne : tg ≠ .register .cmd) :
    step s = .next (writeTarget ((s.setBus rest).answer .written) v tg) := by
  rw [← writeTarget_answer]
  simp only [step, hb, busEffect, State.setBus_params, ht]

theorem step_write_cmdTarget {v : Word} (hb : s.bus = .write addr n v :: rest)
    (ht : busTarget s.params addr n = some (.register .cmd)) :
    step s = runCommand v ((s.setBus rest).answer .written) := by
  simp only [step, hb, busEffect, State.setBus_params, ht]

theorem step_refused {e : BusEvent} (he : e = .read addr n ∨ ∃ v, e = .write addr n v) (hb : s.bus = e :: rest)
    (ha : ¬ admitted s.params addr n) : step s = .next ((s.setBus rest).answer .busError) := by
  have ht := busTarget_eq_none_iff.2 ha
  obtain rfl | ⟨v, rfl⟩ := he <;> simp only [step, hb, busEffect, State.setBus_params, ht]

/-- A command word never changes what the bus has answered, legal or not. -/
theorem runCommand_reply (c : Word) (s : State) : ∃ t, runCommand c s = .next t ∧ t.reply = s.reply := by
  rw [runCommand]
  split
  · next i _ =>
    obtain ⟨_, _, hrun, -⟩ := exec_runsAlike (.refl i s)
    exact ⟨_, hrun, (exec_unchanged hrun).reply⟩
  · exact ⟨_, rfl, rfl⟩

theorem step_write_admitted {v : Word} (hb : s.bus = .write addr n v :: rest) (ha : admitted s.params addr n) :
    ∃ t, step s = .next t ∧ t.reply = some .written := by
  obtain ⟨tg, ht⟩ := Option.isSome_iff_exists.1 (busTarget_isSome_iff.2 ha)
  by_cases hcmd : tg = .register .cmd
  · rw [hcmd] at ht
    rw [step_write_cmdTarget hb ht]
    exact runCommand_reply v _
  · exact ⟨_, step_writeTarget hb ht hcmd, (writeTarget_unchanged _ v tg).reply⟩

theorem step_read_admitted (hb : s.bus = .read addr n :: rest) (ha : admitted s.params addr n) :
    ∃ t v, step s = .next t ∧ t.reply = some (.data v) := by
  obtain ⟨tg, ht⟩ := Option.isSome_iff_exists.1 (busTarget_isSome_iff.2 ha)
  exact ⟨_, _, step_readTarget hb ht, rfl⟩

/-- R67, said once for a register, a byte and a half: the step at an admitted write other than of CMD makes the
write, answers that it is done and leaves everything else as it was. -/
theorem step_write_frame {v : Word} {tg : BusTarget} {Q : State → Prop} (hb : s.bus = .write addr n v :: rest)
    (ht : busTarget s.params addr n = some tg) (hne : tg ≠ .register .cmd)
    (hQ : Q (writeTarget ((s.setBus rest).answer .written) v tg)) :
    ∃ t, step s = .next t ∧ Q t ∧ t.reply = some .written ∧
      State.UnchangedOutside tg.regs tg.Stores ((s.setBus rest).answer .written) t :=
  have hframe := writeTarget_unchanged ((s.setBus rest).answer .written) v tg
  ⟨_, step_writeTarget hb ht hne, hQ, hframe.reply, hframe⟩

end Sys2Proof.Machine

namespace Sys2Proof.Proofs

open Sys2Proof.Machine

/-- Settles O9: an access reaches nothing exactly when it is not admitted, and an admitted one is answered with
data or with the end of the write, whatever command the write runs. -/
theorem refusedAccessChangesNothing : Obligations.RefusedAccessChangesNothing := by
  unfold Obligations.RefusedAccessChangesNothing
  refine fun s addr n e rest he hb => ⟨step_refused he hb, fun ha => ?_⟩
  obtain rfl | ⟨v, rfl⟩ := he
  · obtain ⟨t, v, hstep, hreply⟩ := step_read_admitted hb ha
    exact ⟨t, hstep, by simp [hreply]⟩
  · obtain ⟨t, hstep, hreply⟩ := step_write_admitted hb ha
    exact ⟨t, hstep, by simp [hreply]⟩

/-- Settles O7: the address reaches what the map names, and the step answers with what that reads as. -/
theorem hostReadFollowsTheMap : Obligations.HostReadFollowsTheMap := by
  unfold Obligations.HostReadFollowsTheMap
  refine fun s addr n rest hb => ⟨?_, ?_, ?_, step_refused (.inl rfl) hb⟩
  · rintro r ha rfl
    exact step_readTarget hb (busTarget_register ha)
  · rintro id hid off ha rfl hoff hlt
    exact step_readTarget hb (busTarget_byte hid ha hoff hlt)
  · rintro b off ha rfl hal hoff hlt
    rw [step_readTarget hb (busTarget_half ha hal hoff hlt), readTarget, apply_ite (BitVec.extractLsb' · 32 _)]
    rfl

/-- Settles O8: the address reaches what the map names, and `step_write_frame` gives the frame; what is left is
what the written register, byte or coefficient then reads as. -/
theorem hostWriteFollowsTheMap : Obligations.HostWriteFollowsTheMap := by
  unfold Obligations.HostWriteFollowsTheMap
  refine fun s addr n v rest hb hv => ⟨?_, step_refused (.inr ⟨v, rfl⟩) hb, ?_, ?_, ?_, ?_, ?_⟩
  · rintro rfl rfl
    exact step_write_cmd hb
  · rintro r hr ha rfl
    exact step_write_frame hb (busTarget_register ha) (register_ne_cmd_of_mem hr (by decide))
      (readReg_writeReg_plain hr _ v)
  · rintro ha rfl
    exact step_write_frame hb (busTarget_register ha) (by decide) (readReg_writeReg_ctrl _ v)
  · rintro r hr ha rfl
    rw [step_writeTarget hb (busTarget_register ha) (register_ne_cmd_of_mem hr (by decide)), writeTarget,
      writeReg_of_readOnly hr]
    rfl
  · rintro id hid off ha rfl hoff hlt
    exact step_write_frame hb (busTarget_byte hid ha hoff hlt) nofun (writeTarget_byte_toNat hv _ id off)
  · rintro b off ha rfl hal hoff hlt
    have hword := ((s.setBus rest).answer .written).coefWord_store_half b v hal
    simp only [State.answer_coefWord, State.setBus_coefWord] at hword
    exact step_write_frame hb (busTarget_half ha hal hoff hlt) nofun hword

end Sys2Proof.Proofs

/-! PROOF. The command word (30_encoding.md R90 to R93): its three fields, the one word of each command, the row of
the opcode map that holds it, and what an illegal word does. Settles O1 to O4. -/

namespace Sys2Proof

variable {c : Word} {op : Byte} {b : Bool} {i j : Instr}

/-! ### The fields of a command word (R90) -/

theorem getLsbD_commandWord (op : Byte) (b : Bool) (k : Nat) :
    (commandWord op b).getLsbD k = if k < 8 then op.getLsbD k else decide (k = 8) && b := by
  rw [commandWord, BitVec.getLsbD_append, BitVec.getLsbD_append, BitVec.getLsbD_ofBool]
  split
  · rfl
  · obtain rfl | heq := eq_or_ne k 8
    · rfl
    · rw [if_neg (by omega)]
      simp [heq]

/-- A word is its three fields, side by side. -/
theorem eq_commandWord_iff : c = commandWord op b ↔ wordZero c = 0 ∧ wordOp c = op ∧ wordBankBit c = b := by
  constructor
  · rintro rfl
    refine ⟨?_, BitVec.extractLsb'_append_eq_right, getLsbD_commandWord op b 8⟩
    rw [wordZero, commandWord, BitVec.extractLsb'_append_eq_of_le (by decide)]
    exact BitVec.extractLsb'_append_eq_left
  · rintro ⟨hzero, rfl, rfl⟩
    refine BitVec.eq_of_getLsbD_eq fun k hk => ?_
    rw [getLsbD_commandWord]
    split
    · next hlt => simp [wordOp, hlt]
    · next hge =>
      obtain rfl | hgt : k = 8 ∨ 9 ≤ k := by omega
      · simp [wordBankBit]
      · have hbit : (wordZero c).getLsbD (k - 9) = false := by simp [hzero]
        rw [wordZero, BitVec.getLsbD_extractLsb', Nat.add_sub_cancel' hgt] at hbit
        simpa [show k - 9 < 23 by omega, show k ≠ 8 by omega] using hbit

/-- The mask 0xFFFFFEFF leaves bit 8 free and fixes every other bit (R92). -/
theorem eq_commandWord_of_and_mask (h : c &&& 0xFFFFFEFF = commandWord op false) :
    c = commandWord op (wordBankBit c) := by
  have hmask : ∀ k : Fin 32, (0xFFFFFEFF : Word).getLsbD k = decide (k.val ≠ 8) := by decide
  refine BitVec.eq_of_getLsbD_eq fun k hk => ?_
  have hbit : (c.getLsbD k && decide (k ≠ 8)) = (commandWord op false).getLsbD k := by
    rw [← h, BitVec.getLsbD_and, hmask ⟨k, hk⟩]
  rw [getLsbD_commandWord] at hbit ⊢
  by_cases hk8 : k = 8
  · simp [hk8, wordBankBit]
  · simpa [hk8] using hbit

theorem bankBit_bankOfBit (b : Bool) : bankBit (bankOfBit b) = b := by
  cases b <;> rfl

/-! ### The fields of a command (R92) -/

/-- OP of a command's word. -/
def Instr.opcode : Instr → Byte
  | .nop => 0x00
  | .srst => 0x01
  | .fdct _ => 0x10
  | .idct _ => 0x11
  | .sel _ => 0x12
  | .embed => 0x20
  | .xdiff => 0x30
  | .xself _ => 0x31
  | .mpatch => 0x40
  | .mdetect => 0x41
  | .mread => 0x42

/-- B of a command's word: the bank, and 0 for a command without one. -/
def Instr.bit8 : Instr → Bool
  | .fdct b | .idct b | .sel b | .xself b => bankBit b
  | _ => false

/-- The same command on another bank; a command without a bank operand stays. -/
def Instr.withBank (b : Bank) : Instr → Instr
  | .fdct _ => .fdct b
  | .idct _ => .idct b
  | .sel _ => .sel b
  | .xself _ => .xself b
  | i => i

theorem encode_eq (i : Instr) : encode i = commandWord i.opcode i.bit8 := by
  cases i <;> rfl

theorem eq_encode_iff : c = encode i ↔ wordZero c = 0 ∧ wordOp c = i.opcode ∧ wordBankBit c = i.bit8 := by
  rw [encode_eq, eq_commandWord_iff]

theorem Instr.opcode_withBank (b : Bank) (i : Instr) : (i.withBank b).opcode = i.opcode := by
  cases i <;> rfl

/-! ### Decoding -/

theorem roundTrip : ∀ i, Laws.RoundTrip.Statement i
  | .nop => Laws.RoundTrip.nop
  | .srst => Laws.RoundTrip.srst
  | .fdct b => Laws.RoundTrip.fdct b
  | .idct b => Laws.RoundTrip.idct b
  | .sel b => Laws.RoundTrip.sel b
  | .embed => Laws.RoundTrip.embed
  | .xdiff => Laws.RoundTrip.xdiff
  | .xself b => Laws.RoundTrip.xself b
  | .mpatch => Laws.RoundTrip.mpatch
  | .mdetect => Laws.RoundTrip.mdetect
  | .mread => Laws.RoundTrip.mread

theorem Instr.wellFormed_eq_true (i : Instr) : i.wellFormed = true := by
  cases i <;> rfl

theorem withoutBank_eq_ok_iff : withoutBank b i = .ok j ↔ b = false ∧ i = j := by
  cases b <;> simp [withoutBank]

/-- What the decoder has looked at when it answers with a command. -/
theorem fields_of_decode (h : decode c = .ok i) :
    wordZero c = 0 ∧ wordOp c = i.opcode ∧ wordBankBit c = i.bit8 := by
  have hop {n : Nat} (hn : (wordOp c).toNat = n) : wordOp c = BitVec.ofNat 8 n := by
    rw [← hn, BitVec.ofNat_toNat, BitVec.setWidth_eq]
  simp only [decode] at h
  split at h
  · cases h
  · next hzero =>
    refine ⟨not_not.mp hzero, ?_⟩
    split at h
    case h_3 hn | h_4 hn | h_5 hn | h_8 hn =>
      cases h
      exact ⟨hop hn, (bankBit_bankOfBit _).symm⟩
    case h_1 hn | h_2 hn | h_6 hn | h_7 hn | h_9 hn | h_10 hn | h_11 hn =>
      obtain ⟨hbit, rfl⟩ := withoutBank_eq_ok_iff.mp h
      exact ⟨hop hn, hbit⟩
    case h_12 => cases h

/-- A word decodes to a command exactly when it is the encoder's word of that command. -/
theorem decode_eq_ok_iff : decode c = .ok i ↔ c = encode i := by
  refine ⟨fun h => eq_encode_iff.mpr (fields_of_decode h), ?_⟩
  rintro rfl
  exact roundTrip i i.wellFormed_eq_true

/-! ### The rows of the opcode map (R92) -/

/-- The bits of the word that the row of a command fixes: all, but for the bank where there is one. -/
def Instr.mask : Instr → Word
  | .fdct _ | .idct _ | .sel _ | .xself _ => 0xFFFFFEFF
  | _ => 0xFFFFFFFF

/-- The row of a command; `opcodeMap_eq` says that the opcode map holds these rows and no others. -/
def Instr.row (i : Instr) : OpcodeRow := ⟨i.mnemonic, commandWord i.opcode false, i.mask⟩

/-- One command of each row, in the order of the opcode map. -/
def rowCommands : List Instr :=
  [.nop, .srst, .fdct .zero, .idct .zero, .sel .zero, .embed, .xdiff, .xself .zero, .mpatch, .mdetect, .mread]

theorem opcodeMap_eq : opcodeMap = rowCommands.map Instr.row := rfl

theorem Instr.row_withBank (b : Bank) (i : Instr) : (i.withBank b).row = i.row := by
  cases i <;> rfl

theorem Instr.withBank_zero_mem (i : Instr) : i.withBank .zero ∈ rowCommands := by
  cases i <;> simp [withBank, rowCommands]

theorem Instr.row_mem (i : Instr) : i.row ∈ opcodeMap := by
  rw [opcodeMap_eq, ← i.row_withBank .zero]
  exact List.mem_map_of_mem i.withBank_zero_mem

theorem opcodeMap_mnemonic_nodup : (opcodeMap.map OpcodeRow.mnemonic).Nodup := by
  decide

theorem eq_of_mnemonic_eq {row₁ row₂ : OpcodeRow} (h₁ : row₁ ∈ opcodeMap) (h₂ : row₂ ∈ opcodeMap)
    (h : row₁.mnemonic = row₂.mnemonic) : row₁ = row₂ :=
  List.inj_on_of_nodup_map opcodeMap_mnemonic_nodup h₁ h₂ h

theorem encode_and_mask (i : Instr) : encode i &&& i.row.mask = i.row.value := by
  cases i with
  | fdct b | idct b | sel b | xself b => cases b <;> rfl
  | _ => rfl

/-- A word that satisfies a row is the word of the row's command, on the bank that bit 8 names. -/
theorem eq_encode_of_and_mask (h : c &&& i.row.mask = i.row.value) :
    c = encode (i.withBank (bankOfBit (wordBankBit c))) := by
  have hfull {v : Word} (hv : c &&& 0xFFFFFFFF = v) : c = v := by
    rw [← hv]
    exact BitVec.and_allOnes.symm
  cases i with
  | fdct | idct | sel | xself =>
    rw [encode_eq, Instr.opcode_withBank]
    simpa [Instr.withBank, Instr.bit8, bankBit_bankOfBit] using eq_commandWord_of_and_mask h
  | _ => exact hfull h

theorem and_mask_eq_value_iff {row : OpcodeRow} (hrow : row ∈ opcodeMap) :
    c &&& row.mask = row.value ↔ ∃ i, decode c = .ok i ∧ i.mnemonic = row.mnemonic := by
  simp only [decode_eq_ok_iff]
  constructor
  · intro h
    rw [opcodeMap_eq] at hrow
    obtain ⟨i, -, rfl⟩ := List.mem_map.mp hrow
    exact ⟨_, eq_encode_of_and_mask h, congrArg OpcodeRow.mnemonic (i.row_withBank _)⟩
  · rintro ⟨i, rfl, hname⟩
    rw [← eq_of_mnemonic_eq i.row_mem hrow hname]
    exact encode_and_mask i

/-! ### The illegal words (R93) -/

/-- OP of the eleven commands, in the order of the opcode map. -/
def opcodes : List Byte := [0x00, 0x01, 0x10, 0x11, 0x12, 0x20, 0x30, 0x31, 0x40, 0x41, 0x42]

/-- OP of the seven commands without a bank operand. -/
def opcodesWithoutBank : List Byte := [0x00, 0x01, 0x20, 0x30, 0x40, 0x41, 0x42]

theorem opcodes_eq : opcodes = rowCommands.map Instr.opcode := rfl

theorem mem_opcodes_iff : op ∈ opcodes ↔ ∃ i : Instr, i.opcode = op := by
  rw [opcodes_eq, List.mem_map]
  constructor
  · rintro ⟨i, -, hop⟩
    exact ⟨i, hop⟩
  · rintro ⟨i, rfl⟩
    exact ⟨_, i.withBank_zero_mem, i.opcode_withBank _⟩

/-- Bit 8 is free on a command with a bank operand, and 0 on the seven others. -/
theorem exists_bit8_eq_iff (i : Instr) :
    (∃ j : Instr, j.opcode = i.opcode ∧ j.bit8 = b) ↔ (i.opcode ∈ opcodesWithoutBank → b = false) := by
  constructor
  · rintro ⟨j, hop, rfl⟩
    rw [← hop]
    cases j with
    | fdct | idct | sel | xself => simp [Instr.opcode, opcodesWithoutBank]
    | _ => exact fun _ => rfl
  · intro hb
    refine ⟨i.withBank (bankOfBit b), i.opcode_withBank _, ?_⟩
    cases i with
    | fdct | idct | sel | xself => exact bankBit_bankOfBit b
    | _ => exact (hb (by decide)).symm

theorem not_exists_decode_eq_error_iff : (¬ ∃ e, decode c = .error e) ↔ ∃ i, decode c = .ok i := by
  cases decode c <;> simp

/-- The decoder refuses a word exactly for one of the three reasons of R93. -/
theorem decode_eq_error_iff :
    (∃ e, decode c = .error e) ↔
      (wordZero c ≠ 0 ∨ wordOp c ∉ opcodes ∨ (wordOp c ∈ opcodesWithoutBank ∧ wordBankBit c = true)) := by
  rw [← not_iff_not, not_exists_decode_eq_error_iff, mem_opcodes_iff]
  simp only [decode_eq_ok_iff, eq_encode_iff]
  constructor
  · rintro ⟨i, hzero, hop, hbit⟩ (hne | hne | ⟨hmem, hset⟩)
    · exact hne hzero
    · exact hne ⟨i, hop.symm⟩
    · have hclear := (exists_bit8_eq_iff i).mp ⟨i, rfl, rfl⟩ (hop ▸ hmem)
      simp [hbit, hclear] at hset
  · intro h
    push Not at h
    obtain ⟨hzero, ⟨i, hop⟩, hbit⟩ := h
    obtain ⟨j, hj, hj8⟩ := (exists_bit8_eq_iff i).mpr fun hmem => eq_false_of_ne_true (hbit (hop ▸ hmem))
    exact ⟨j, hzero, hop.symm.trans hj.symm, hj8.symm⟩

end Sys2Proof

namespace Sys2Proof.Machine

variable {s : State} {rest : List BusEvent} {c : Word}

theorem runCommand_of_decode_error {e : DecodeError} (hc : decode c = .error e) (s : State) :
    runCommand c s = .next (s.setErr .illCmd) := by
  simp only [runCommand, hc, raiseFault_eq]

theorem step_of_decode_error {e : DecodeError} (hc : decode c = .error e) (hb : s.bus = .write 0 4 c :: rest) :
    step s = .next (((s.setBus rest).answer .written).setErr .illCmd) := by
  rw [step_write_cmd hb, runCommand_of_decode_error hc]

end Sys2Proof.Machine

namespace Sys2Proof.Proofs

open Sys2Proof.Machine

/-- Settles O1: a word decodes to a command exactly when it is the encoder's word. -/
theorem decodeAndEncodeAgree : Obligations.DecodeAndEncodeAgree := by
  unfold Obligations.DecodeAndEncodeAgree
  exact fun i hi => ⟨roundTrip i hi, fun c hc => decode_eq_ok_iff.mp hc⟩

/-- Settles O2: a row holds the words of its command; two rows of one word name the command it decodes to. -/
theorem decodeFollowsOpcodeMap : Obligations.DecodeFollowsOpcodeMap := by
  unfold Obligations.DecodeFollowsOpcodeMap
  refine ⟨rfl, fun c row hrow => and_mask_eq_value_iff hrow, fun c row₁ hrow₁ row₂ hrow₂ hc₁ hc₂ => ?_⟩
  obtain ⟨i, hi, hname₁⟩ := (and_mask_eq_value_iff hrow₁).mp hc₁
  obtain ⟨j, hj, hname₂⟩ := (and_mask_eq_value_iff hrow₂).mp hc₂
  have hij : i = j := Except.ok.inj (hi.symm.trans hj)
  subst hij
  exact eq_of_mnemonic_eq hrow₁ hrow₂ (hname₁.symm.trans hname₂)

/-- Settles O3: the reasons from the fields of the words that do decode, the next state from the step at CMD. -/
theorem illegalWordsRaiseIllCmd : Obligations.IllegalWordsRaiseIllCmd := by
  unfold Obligations.IllegalWordsRaiseIllCmd
  exact fun c => ⟨decode_eq_error_iff, fun _ _ _ hc hb => step_of_decode_error hc hb⟩

/-- Settles O4: the legal words are the encoder's; the last two have bit 8 set on EMBED, and bit 9 set. -/
theorem writtenWordsDecode : Obligations.WrittenWordsDecode := by
  unfold Obligations.WrittenWordsDecode
  exact ⟨roundTrip .nop rfl, roundTrip .srst rfl, roundTrip (.fdct .one) rfl,
    roundTrip (.idct .one) rfl, roundTrip (.sel .zero) rfl, roundTrip .embed rfl,
    roundTrip .xdiff rfl, roundTrip (.xself .one) rfl, roundTrip .mpatch rfl,
    roundTrip .mdetect rfl, roundTrip .mread rfl, rfl, rfl⟩

end Sys2Proof.Proofs

/-! PROOF. The block functions as double sums over the tables (40_block_transform.md R112 to R118): the table rules and
what R117 and R118 say of one block. Settles O19, O20 and O21. -/

namespace Sys2Proof.Machine

/-! ### The tables (R112 to R115) -/

theorem sum8_eq_sum (f : Nat → Int) : sum8 f = ∑ i ∈ Finset.range 8, f i := by
  simp [sum8, Finset.sum_range_succ]

/-- R114's first row: the cosine of 0. -/
@[simp] theorem basis_zero (i : Nat) : basis 0 i = 2 ^ 30 := rfl

/-- R114: every row but the first sums to 0. -/
theorem sum_basis : ∀ k < 8, k ≠ 0 → ∑ i ∈ Finset.range 8, basis k i = 0 := by decide

/-- R114: the mirror symmetry of the rows. -/
theorem basis_mirror : ∀ k < 8, ∀ i < 8, basis k (7 - i) = (-1) ^ k * basis k i := by decide

theorem abs_basis_le : ∀ k < 8, ∀ i < 8, |basis k i| ≤ 2 ^ 30 := by decide

@[simp] theorem weight_zero_zero : weight 0 0 = 2 ^ 30 := rfl

theorem weight_of_ne_zero {k l : Nat} (hk : k ≠ 0) (hl : l ≠ 0) : weight k l = 2 ^ 31 := by
  simp [weight, hk, hl]

theorem weight_pos (k l : Nat) : 0 < weight k l := by
  unfold weight; split_ifs <;> decide

theorem weight_le (k l : Nat) : weight k l ≤ 2 ^ 31 := by
  unfold weight; split_ifs <;> decide

/-! ### The double sums of one block (R117, R118) -/

theorem fdctSum_eq_sum (P : Nat → Nat → Int) (k l : Nat) :
    fdctSum P k l = ∑ i ∈ Finset.range 8, ∑ j ∈ Finset.range 8, P i j * basis k i * basis l j := by
  simp only [fdctSum, sum8_eq_sum]

theorem idctSum_eq_sum (F : Nat → Nat → Int) (i j : Nat) :
    idctSum F i j =
      ∑ k ∈ Finset.range 8, ∑ l ∈ Finset.range 8, F k l * weight k l * basis k i * basis l j := by
  simp only [idctSum, sum8_eq_sum]

/-- The DC sum is the sum of the pixels. -/
theorem fdctSum_zero_zero (P : Nat → Nat → Int) :
    fdctSum P 0 0 = 2 ^ 60 * ∑ i ∈ Finset.range 8, ∑ j ∈ Finset.range 8, P i j := by
  simp only [fdctSum_eq_sum, basis_zero, Finset.mul_sum]
  exact Finset.sum_congr rfl fun i _ => Finset.sum_congr rfl fun j _ => by ring

/-- A power of two in the value takes that many bits off the rounding. -/
theorem rhu_mul_two_pow (v : Int) (m : Nat) {n : Nat} (hn : 0 < n) : rhu (v * 2 ^ m) (n + m) = rhu v n := by
  obtain ⟨n, rfl⟩ : ∃ n', n = n' + 1 := ⟨n - 1, by omega⟩
  have hsum : v * 2 ^ m + 2 ^ (n + 1 + m - 1) = (v + 2 ^ (n + 1 - 1)) * 2 ^ m := by
    rw [show n + 1 + m - 1 = n + m by omega, Nat.add_sub_cancel]
    ring
  rw [rhu, rhu, hsum, pow_add _ (n + 1), Int.mul_ediv_mul_of_pos_left _ _ (by positivity)]

/-- A whole number is not rounded. -/
theorem rhu_two_pow_mul (v : Int) {n : Nat} (hn : 0 < n) : rhu (2 ^ n * v) n = v := by
  obtain ⟨n, rfl⟩ : ∃ n', n = n' + 1 := ⟨n - 1, by omega⟩
  have hhalf : (2 : Int) ^ n / 2 ^ (n + 1) = 0 :=
    Int.ediv_eq_zero_of_lt (by positivity) (pow_lt_pow_right₀ (by decide) n.lt_succ_self)
  rw [rhu, Nat.add_sub_cancel, add_comm, Int.add_mul_ediv_left _ _ (by positivity), hhalf, zero_add]

theorem fdctBlock_zero_zero (P : Nat → Nat → Int) : fdctBlock P 0 0 = rhu (fdctSum P 0 0) 31 :=
  rhu_mul_two_pow _ 30 (by decide)

theorem fdctBlock_zero_zero_eq_sum (P : Nat → Nat → Int) :
    fdctBlock P 0 0 = 2 ^ 29 * ∑ i ∈ Finset.range 8, ∑ j ∈ Finset.range 8, P i j := by
  rw [fdctBlock_zero_zero, fdctSum_zero_zero, show (60 : Nat) = 31 + 29 from rfl, pow_add, mul_assoc]
  exact rhu_two_pow_mul _ (by decide)

theorem fdctBlock_of_ne_zero (P : Nat → Nat → Int) {k l : Nat} (hk : k ≠ 0) (hl : l ≠ 0) :
    fdctBlock P k l = rhu (fdctSum P k l) 30 := by
  rw [fdctBlock, weight_of_ne_zero hk hl]
  exact rhu_mul_two_pow _ 31 (by decide)

/-- R118: saturation hides the direction of the truncation, which matters below 0 alone. -/
theorem clamp8_trunc0 (v : Int) (n : Nat) : clamp8 (trunc0 v n) = clamp8 (v / 2 ^ n) := by
  unfold trunc0
  split
  · rfl
  · next hv =>
    have hneg : v / 2 ^ n < 0 := Int.ediv_neg_of_neg_of_pos (by omega) (by positivity)
    have hpos : 0 ≤ -v / 2 ^ n := Int.ediv_nonneg (by omega) (by positivity)
    unfold clamp8
    omega

theorem idctBlock_eq_floor (F : Nat → Nat → Int) (i j : Nat) :
    idctBlock F i j = clamp8 (idctSum F i j / 2 ^ 125) := clamp8_trunc0 ..

end Sys2Proof.Machine

namespace Sys2Proof.Proofs

open Sys2Proof.Machine

/-- Settles O19: the table has 64 entries; each clause is read off them. -/
theorem basisTable : Obligations.BasisTable := by
  unfold Obligations.BasisTable
  refine ⟨fun _ _ => rfl, by decide, fun k hk => ?_, fun k hk i hi => ?_⟩
  · exact sum_basis k (List.mem_range.mp hk)
  · exact basis_mirror k (List.mem_range.mp hk) i (List.mem_range.mp hi)

/-- Settles O20: the weights of the equivalent forms are powers of two, which shorten the rounding. -/
theorem forwardBlockIsRoundedSum : Obligations.ForwardBlockIsRoundedSum := by
  unfold Obligations.ForwardBlockIsRoundedSum
  intro P
  simp only [← fdctSum_eq_sum]
  exact ⟨fun _ _ _ _ => rfl, fdctBlock_zero_zero P, fdctBlock_zero_zero_eq_sum P,
    fun _ _ _ _ hk hl => fdctBlock_of_ne_zero P hk hl⟩

/-- Settles O21: the second form is `clamp8_trunc0`. -/
theorem inverseBlockIsTruncatedSum : Obligations.InverseBlockIsTruncatedSum := by
  unfold Obligations.InverseBlockIsTruncatedSum
  intro F i j _ _
  simp only [← idctSum_eq_sum]
  exact ⟨rfl, idctBlock_eq_floor F i j, idctBlock_range F i j⟩

end Sys2Proof.Proofs

/-! PROOF. The ranges of the forward transform (R124) and the blocks it treats exactly (R125). The extremes of a
weighted sum of pixels are 255 times the positive and the negative part of its weights; the tables of these parts are
finite. Settles O22 and O23. -/

namespace Sys2Proof.Machine

/-! ### Weighted sums of pixels -/

/-- A block of pixels: the elements with indices below 8 lie in 0 to 255. -/
abbrev IsPixelBlock (P : Nat → Nat → Int) : Prop := ∀ i < 8, ∀ j < 8, 0 ≤ P i j ∧ P i j ≤ 255

/-- The largest value of the sum of a block of pixels weighted by `E`: 255 where the weight is positive. -/
def maxPixelSum (E : Nat → Nat → Int) : Int := 255 * sum8 fun i => sum8 fun j => max (E i j) 0

theorem sum_pixels_mul_le {P : Nat → Nat → Int} (hP : IsPixelBlock P) (E : Nat → Nat → Int) :
    ∑ i ∈ Finset.range 8, ∑ j ∈ Finset.range 8, P i j * E i j ≤ maxPixelSum E := by
  simp only [maxPixelSum, sum8_eq_sum, Finset.mul_sum]
  refine Finset.sum_le_sum fun i hi => Finset.sum_le_sum fun j hj => ?_
  obtain ⟨h0, h255⟩ := hP i (Finset.mem_range.mp hi) j (Finset.mem_range.mp hj)
  calc P i j * E i j ≤ P i j * max (E i j) 0 := mul_le_mul_of_nonneg_left (le_max_left _ _) h0
    _ ≤ 255 * max (E i j) 0 := mul_le_mul_of_nonneg_right h255 (le_max_right _ _)

theorem neg_maxPixelSum_le {P : Nat → Nat → Int} (hP : IsPixelBlock P) (E : Nat → Nat → Int) :
    -maxPixelSum (fun i j => -E i j) ≤ ∑ i ∈ Finset.range 8, ∑ j ∈ Finset.range 8, P i j * E i j := by
  have h := sum_pixels_mul_le hP fun i j => -E i j
  simp only [mul_neg, Finset.sum_neg_distrib] at h
  omega

/-! ### Ranges (R124) -/

theorem rhu_le {v M : Int} {n : Nat} (h : v + 2 ^ (n - 1) < (M + 1) * 2 ^ n) : rhu v n ≤ M :=
  Int.lt_add_one_iff.mp (Int.ediv_lt_of_lt_mul (by positivity) h)

theorem le_rhu {v M : Int} {n : Nat} (h : M * 2 ^ n ≤ v + 2 ^ (n - 1)) : M ≤ rhu v n :=
  Int.le_ediv_of_mul_le (by positivity) h

theorem fdctSum_eq_sum_mul (P : Nat → Nat → Int) (k l : Nat) :
    fdctSum P k l = ∑ i ∈ Finset.range 8, ∑ j ∈ Finset.range 8, P i j * (basis k i * basis l j) := by
  simp only [fdctSum_eq_sum, mul_assoc]

/-- What the tables allow for every coefficient: `|A| < 2^74`. -/
theorem maxPixelSum_basis_lt : ∀ k < 8, ∀ l < 8, maxPixelSum (fun i j => basis k i * basis l j) < 2 ^ 74 ∧
    maxPixelSum (fun i j => -(basis k i * basis l j)) < 2 ^ 74 := by decide +kernel

/-- What the tables allow for the AC words, with the rounding of R117. -/
theorem maxPixelSum_basis_mul_weight_le : ∀ k < 8, ∀ l < 8, (k, l) ≠ (0, 0) →
    maxPixelSum (fun i j => basis k i * basis l j) * weight k l + 2 ^ 60 < (4380866641989 + 1) * 2 ^ 61 ∧
    maxPixelSum (fun i j => -(basis k i * basis l j)) * weight k l ≤ 4380866641989 * 2 ^ 61 + 2 ^ 60 := by
  decide +kernel

theorem abs_fdctSum_lt {P : Nat → Nat → Int} (hP : IsPixelBlock P) {k l : Nat} (hk : k < 8) (hl : l < 8) :
    |fdctSum P k l| < 2 ^ 74 := by
  have hle := sum_pixels_mul_le hP fun i j => basis k i * basis l j
  have hge := neg_maxPixelSum_le hP fun i j => basis k i * basis l j
  obtain ⟨hpos, hneg⟩ := maxPixelSum_basis_lt k hk l hl
  rw [fdctSum_eq_sum_mul, abs_lt]
  constructor <;> linarith

theorem abs_fdctSum_mul_weight_lt {P : Nat → Nat → Int} (hP : IsPixelBlock P) {k l : Nat} (hk : k < 8)
    (hl : l < 8) : |fdctSum P k l * weight k l| < 2 ^ 105 := by
  rw [abs_mul, abs_of_pos (weight_pos k l)]
  calc |fdctSum P k l| * weight k l < 2 ^ 74 * weight k l :=
        mul_lt_mul_of_pos_right (abs_fdctSum_lt hP hk hl) (weight_pos k l)
    _ ≤ 2 ^ 74 * 2 ^ 31 := mul_le_mul_of_nonneg_left (weight_le k l) (by positivity)
    _ = 2 ^ 105 := by norm_num

theorem fdctBlock_dc_range {P : Nat → Nat → Int} (hP : IsPixelBlock P) :
    0 ≤ fdctBlock P 0 0 ∧ fdctBlock P 0 0 ≤ 8761733283840 := by
  have hle := sum_pixels_mul_le hP fun _ _ => 1
  have hge := neg_maxPixelSum_le hP fun _ _ => 1
  have hmax : maxPixelSum (fun _ _ => 1) = 255 * 64 := by decide
  have hmin : maxPixelSum (fun _ _ => -1) = 0 := by decide
  simp only [mul_one] at hle hge
  rw [fdctBlock_zero_zero_eq_sum]
  omega

theorem fdctBlock_ac_range {P : Nat → Nat → Int} (hP : IsPixelBlock P) {k l : Nat} (hk : k < 8) (hl : l < 8)
    (hac : (k, l) ≠ (0, 0)) : -4380866641989 ≤ fdctBlock P k l ∧ fdctBlock P k l ≤ 4380866641989 := by
  obtain ⟨hpos, hneg⟩ := maxPixelSum_basis_mul_weight_le k hk l hl hac
  have hle := mul_le_mul_of_nonneg_right (sum_pixels_mul_le hP fun i j => basis k i * basis l j)
    (weight_pos k l).le
  have hge := mul_le_mul_of_nonneg_right (neg_maxPixelSum_le hP fun i j => basis k i * basis l j)
    (weight_pos k l).le
  rw [← fdctSum_eq_sum_mul] at hle hge
  rw [neg_mul] at hge
  exact ⟨le_rhu (by omega), rhu_le (by omega)⟩

/-- Every coefficient of a block of pixels has magnitude below 2^43 (R124). -/
theorem abs_fdctBlock_lt {P : Nat → Nat → Int} (hP : IsPixelBlock P) {k l : Nat} (hk : k < 8) (hl : l < 8) :
    |fdctBlock P k l| < 2 ^ 43 := by
  rw [abs_lt]
  by_cases hdc : (k, l) = (0, 0)
  · obtain ⟨rfl, rfl⟩ := Prod.mk.inj hdc
    have h := fdctBlock_dc_range hP
    omega
  · have h := fdctBlock_ac_range hP hk hl hdc
    omega

/-! ### Exact blocks (R125) -/

/-- The block functions read the elements with indices below 8 alone. -/
theorem fdctBlock_congr {P Q : Nat → Nat → Int} (h : ∀ i < 8, ∀ j < 8, P i j = Q i j) (k l : Nat) :
    fdctBlock P k l = fdctBlock Q k l := by
  have hsum : fdctSum P k l = fdctSum Q k l := by
    simp only [fdctSum_eq_sum]
    exact Finset.sum_congr rfl fun i hi => Finset.sum_congr rfl fun j hj => by
      rw [h i (Finset.mem_range.mp hi) j (Finset.mem_range.mp hj)]
  rw [fdctBlock, fdctBlock, hsum]

theorem idctBlock_congr {F G : Nat → Nat → Int} (h : ∀ k < 8, ∀ l < 8, F k l = G k l) (i j : Nat) :
    idctBlock F i j = idctBlock G i j := by
  have hsum : idctSum F i j = idctSum G i j := by
    simp only [idctSum_eq_sum]
    exact Finset.sum_congr rfl fun k hk => Finset.sum_congr rfl fun l hl => by
      rw [h k (Finset.mem_range.mp hk) l (Finset.mem_range.mp hl)]
  rw [idctBlock, idctBlock, hsum]

/-- The sum of a constant block is the product of two row sums. -/
theorem fdctSum_const (v : Int) (k l : Nat) : fdctSum (fun _ _ => v) k l =
    v * ((∑ i ∈ Finset.range 8, basis k i) * ∑ j ∈ Finset.range 8, basis l j) := by
  rw [fdctSum_eq_sum_mul, Finset.sum_mul_sum, Finset.mul_sum]
  simp only [Finset.mul_sum]

/-- The block with `c` at (0, 0) and 0 elsewhere. -/
def dcBlock (c : Int) (k l : Nat) : Int := if (k, l) = (0, 0) then c else 0

@[simp] theorem dcBlock_zero_zero (c : Int) : dcBlock c 0 0 = c := rfl

theorem dcBlock_of_ne {k l : Nat} (h : (k, l) ≠ (0, 0)) (c : Int) : dcBlock c k l = 0 := if_neg h

theorem eq_dcBlock {F : Nat → Nat → Int} {c : Int} (hdc : F 0 0 = c)
    (hac : ∀ k < 8, ∀ l < 8, (k, l) ≠ (0, 0) → F k l = 0) : ∀ k < 8, ∀ l < 8, F k l = dcBlock c k l := by
  intro k hk l hl
  by_cases h : (k, l) = (0, 0)
  · obtain ⟨rfl, rfl⟩ := Prod.mk.inj h
    rw [hdc, dcBlock_zero_zero]
  · rw [hac k hk l hl h, dcBlock_of_ne h]

theorem fdctBlock_const_dc (v : Int) : fdctBlock (fun _ _ => v) 0 0 = v * 2 ^ 35 := by
  simp only [fdctBlock_zero_zero_eq_sum, Finset.sum_const, Finset.card_range, nsmul_eq_mul]
  push_cast
  ring

theorem fdctBlock_const_ac (v : Int) {k l : Nat} (hk : k < 8) (hl : l < 8) (hac : (k, l) ≠ (0, 0)) :
    fdctBlock (fun _ _ => v) k l = 0 := by
  have hsum : fdctSum (fun _ _ => v) k l = 0 := by
    rw [fdctSum_const]
    by_cases h0 : k = 0
    · rw [sum_basis l hl fun hl0 => hac (by rw [h0, hl0]), mul_zero, mul_zero]
    · rw [sum_basis k hk h0, zero_mul, mul_zero]
  rw [fdctBlock, hsum, zero_mul]
  rfl

/-- R125 (a). -/
theorem fdctBlock_eq_dcBlock {P : Nat → Nat → Int} {v : Int} (hP : ∀ i < 8, ∀ j < 8, P i j = v) :
    ∀ k < 8, ∀ l < 8, fdctBlock P k l = dcBlock (v * 2 ^ 35) k l := by
  refine eq_dcBlock ?_ fun k hk l hl hac => ?_
  · exact (fdctBlock_congr hP 0 0).trans (fdctBlock_const_dc v)
  · exact (fdctBlock_congr hP k l).trans (fdctBlock_const_ac v hk hl hac)

theorem idctSum_dcBlock (c : Int) (i j : Nat) : idctSum (dcBlock c) i j = c * 2 ^ 90 := by
  simp [idctSum, sum8, dcBlock]
  ring

/-- R125 (b). -/
theorem idctBlock_of_eq_dcBlock {F : Nat → Nat → Int} {d : Int} (h0 : 0 ≤ d) (h255 : d ≤ 255)
    (hF : ∀ k < 8, ∀ l < 8, F k l = dcBlock (d * 2 ^ 35) k l) (i j : Nat) : idctBlock F i j = d := by
  rw [idctBlock_congr hF, idctBlock_eq_floor, idctSum_dcBlock, mul_assoc, ← pow_add,
    Int.mul_ediv_cancel _ (by positivity)]
  exact clamp8_of_mem h0 h255

end Sys2Proof.Machine

namespace Sys2Proof.Proofs

open Sys2Proof.Machine

/-- Settles O22: the tables of `maxPixelSum` bound every sum, and the rounding adds at most one half. -/
theorem transformRanges : Obligations.TransformRanges := by
  unfold Obligations.TransformRanges
  refine fun P hP => ⟨fdctBlock_dc_range hP, fun k hk l hl => fdctBlock_ac_range hP hk hl, fun k hk l hl => ?_⟩
  obtain ⟨hlo, hhi⟩ := abs_lt.mp (abs_fdctSum_lt hP hk hl)
  obtain ⟨hwlo, hwhi⟩ := abs_lt.mp (abs_fdctSum_mul_weight_lt hP hk hl)
  exact ⟨hlo, hhi, hwlo, hwhi⟩

/-- Settles O23: a constant block transforms to `dcBlock`, by the zero row sums, and that inverts exactly. -/
theorem constantBlockExact : Obligations.ConstantBlockExact := by
  unfold Obligations.ConstantBlockExact
  refine ⟨fun P v hP => ⟨?_, fun k hk l hl hac => ?_⟩, fun F d h0 h255 hdc hac i _ j _ => ?_,
    fun P v h0 h255 hP i _ j _ => ?_⟩
  · exact fdctBlock_eq_dcBlock hP 0 (by decide) 0 (by decide)
  · exact (fdctBlock_eq_dcBlock hP k hk l hl).trans (dcBlock_of_ne hac _)
  · exact idctBlock_of_eq_dcBlock h0 h255 (eq_dcBlock hdc hac) i j
  · exact idctBlock_of_eq_dcBlock h0 h255 (fdctBlock_eq_dcBlock hP) i j

end Sys2Proof.Proofs

/-! PROOF. The plane commands FDCT (R121) and IDCT (R122): the memory after the command, read back through
`coefBlock` and `pixelBlock`, is the transform of the memory before it; the frame is the table of 10_state.md R45.
Settles O26 and O27. -/

namespace Sys2Proof.Machine

variable {s : State} {b : Bank}

/-! ### Planes as the state holds them -/

theorem State.isPixelBlock_pixelBlock (s : State) (b : Bank) (w y x : Nat) : IsPixelBlock (s.pixelBlock b w y x) := by
  intro i _ j _
  have := (s.byteAt (pixId b) (blkIdx w y x i j)).isLt
  unfold State.pixelBlock
  omega

variable {w h y x r c : Nat} (hw : w % 8 = 0) (hy : y < h / 8) (hx : x < w / 8) (hr : r < 8) (hc : c < 8)

include hw hy hx hr hc

theorem State.planeBlock_pixPlane (s : State) (b : Bank) :
    planeBlock (s.pixPlane b (w * h)) w y x r c = s.pixelBlock b w y x r c := by
  obtain ⟨hlt, -, -⟩ := blkIdx_facts hw hy hx hr hc
  simp [planeBlock, State.pixPlane, State.pixelBlock, List.getD, hlt]

theorem State.planeBlock_coefPlane (s : State) (b : Bank) :
    planeBlock (s.coefPlane b (w * h)) w y x r c = s.coefBlock b w y x r c := by
  obtain ⟨hlt, -, -⟩ := blkIdx_facts hw hy hx hr hc
  simp [planeBlock, State.coefPlane, State.coefBlock, List.getD, hlt]

/-- R119 on the state: the transform of a block of PIXb. -/
theorem State.planeBlock_transformOf (s : State) (b : Bank) :
    planeBlock (s.transformOf b w h) w y x r c = fdctBlock (s.pixelBlock b w y x) r c := by
  rw [State.transformOf, fdctPlane, planeBlock_mapBlocks _ _ hw hy hx hr hc]
  exact fdctBlock_congr (fun i hi j hj => s.planeBlock_pixPlane hw hy hx hi hj b) r c

/-- R120 on the state: the inverse of a block of COEFb. -/
theorem State.planeBlock_idctPlane (s : State) (b : Bank) :
    planeBlock (idctPlane (s.coefPlane b (w * h)) w h) w y x r c = idctBlock (s.coefBlock b w y x) r c := by
  rw [idctPlane, planeBlock_mapBlocks _ _ hw hy hx hr hc]
  exact idctBlock_congr (fun k hk l hl => s.planeBlock_coefPlane hw hy hx hk hl b) r c

/-- A block of COEFb after a plane is written to it: nothing is lost of an element that fits 64 bits (log 10). -/
theorem State.coefBlock_writeCoef {cs : List Int} (hlen : cs.length = w * h)
    (hfit : |planeBlock cs w y x r c| < 2 ^ 63) (s : State) (b : Bank) :
    (s.writeCoef b cs).coefBlock b w y x r c = planeBlock cs w y x r c := by
  obtain ⟨hlt, -, -⟩ := blkIdx_facts hw hy hx hr hc
  obtain ⟨hlo, hhi⟩ := abs_lt.mp hfit
  rw [State.coefBlock, State.coefAt, State.coefWord_writeCoef, if_pos (hlen ▸ hlt), BitVec.toInt_ofInt]
  exact Int.bmod_eq_of_le (by simpa [planeBlock] using hlo.le) (by simpa [planeBlock] using hhi)

/-- A block of PIXb after a plane is written to it: nothing is lost of an element that is a pixel. -/
theorem State.pixelBlock_writePix {ps : List Int} (hlen : ps.length = w * h)
    (hfit : 0 ≤ planeBlock ps w y x r c ∧ planeBlock ps w y x r c ≤ 255) (s : State) (b : Bank) :
    (s.writePix b ps).pixelBlock b w y x r c = planeBlock ps w y x r c := by
  obtain ⟨hlt, -, -⟩ := blkIdx_facts hw hy hx hr hc
  rw [State.pixelBlock, State.byteAt_writePix, if_pos ⟨rfl, hlen ▸ hlt⟩, BitVec.toNat_ofInt]
  change ((planeBlock ps w y x r c % _).toNat : Int) = _
  omega

omit hw hy hx hr hc

/-! ### The commands -/

theorem exec_fdct_of_dimsOK (hd : dimsOK s.params (s.width b) (s.height b)) : exec (.fdct b) s =
    .next ((s.writeCoef b (s.transformOf b (s.width b) (s.height b))).setErr .ok) := if_pos hd

theorem exec_fdct_of_not_dimsOK (hd : ¬ dimsOK s.params (s.width b) (s.height b)) :
    exec (.fdct b) s = .next (s.setErr .dimInv) := if_neg hd

theorem exec_idct_of_dimsOK (hd : dimsOK s.params (s.width b) (s.height b)) : exec (.idct b) s =
    .next ((s.writePix b (idctPlane (s.coefPlane b (s.width b * s.height b)) (s.width b) (s.height b))).setErr .ok) :=
  if_pos hd

theorem exec_idct_of_not_dimsOK (hd : ¬ dimsOK s.params (s.width b) (s.height b)) :
    exec (.idct b) s = .next (s.setErr .dimInv) := if_neg hd

theorem State.coefBlock_setErr (s : State) (e : ErrCode) : (s.setErr e).coefBlock = s.coefBlock := by
  funext b w y x k l
  simp [State.coefBlock, State.coefAt, State.coefWord]

theorem State.pixelBlock_setErr (s : State) (e : ErrCode) : (s.setErr e).pixelBlock = s.pixelBlock := by
  funext b w y x i j
  simp [State.pixelBlock]

end Sys2Proof.Machine

namespace Sys2Proof.Proofs

open Sys2Proof.Machine

/-- Settles O26: the blocks from R119 and the ranges of R124, the frame from the table of writes (R45). -/
theorem fdctTransformsPlane : Obligations.FdctTransformsPlane := by
  unfold Obligations.FdctTransformsPlane
  refine ⟨roundTrip (.fdct .zero) rfl, roundTrip (.fdct .one) rfl,
    fun b s => ⟨fun hd => ?_, exec_fdct_of_not_dimsOK⟩⟩
  have hrun := exec_fdct_of_dimsOK hd
  refine ⟨_, hrun, fun y hy x hx k hk l hl => ?_, rfl, exec_det hrun (by simp) (by simp), exec_unchanged hrun⟩
  have hblock := s.planeBlock_transformOf hd.1 hy hx hk hl b
  have hrange := abs_fdctBlock_lt (s.isPixelBlock_pixelBlock b (s.width b) y x) hk hl
  rw [State.coefBlock_setErr, State.coefBlock_writeCoef hd.1 hy hx hk hl (by simp) ?_, hblock]
  rw [hblock]
  exact hrange.trans (by norm_num)

/-- Settles O27: the blocks from R120 and the saturation of R118, the frame from the table of writes (R45). -/
theorem idctReconstructsPlane : Obligations.IdctReconstructsPlane := by
  unfold Obligations.IdctReconstructsPlane
  refine ⟨roundTrip (.idct .zero) rfl, roundTrip (.idct .one) rfl,
    fun b s => ⟨fun hd => ?_, exec_idct_of_not_dimsOK⟩⟩
  have hrun := exec_idct_of_dimsOK hd
  refine ⟨_, hrun, fun y hy x hx i hi j hj => ?_, rfl, exec_det hrun (by simp) (by simp), exec_unchanged hrun⟩
  have hblock := s.planeBlock_idctPlane hd.1 hy hx hi hj b
  rw [State.pixelBlock_setErr, State.pixelBlock_writePix hd.1 hy hx hi hj (by simp) ?_, hblock]
  rw [hblock]
  exact idctBlock_range ..

end Sys2Proof.Proofs

/-! PROOF. Forward then inverse transform (R127). The square of the weights is a product of a row and a column weight
up to 2^26, so the round trip is two passes of one 8 by 8 matrix, `gram`, which is 2^93 times the identity up to the
rounding of the tables. Settles O24. -/

namespace Sys2Proof.Machine

/-! ### Bounds of double sums and of products -/

section

variable {R : Type} [CommRing R] [LinearOrder R] [IsStrictOrderedRing R]

theorem abs_double_sum_le {f : Nat → Nat → R} {c : R} (h : ∀ i < 8, ∀ j < 8, |f i j| ≤ c) :
    |∑ i ∈ Finset.range 8, ∑ j ∈ Finset.range 8, f i j| ≤ 64 * c := by
  have hrow (i : Nat) (hi : i ∈ Finset.range 8) : |∑ j ∈ Finset.range 8, f i j| ≤ 8 * c := by
    refine (Finset.abs_sum_le_sum_abs _ _).trans ((Finset.sum_le_card_nsmul _ _ c fun j hj => ?_).trans ?_)
    · exact h i (Finset.mem_range.mp hi) j (Finset.mem_range.mp hj)
    · simp [nsmul_eq_mul]
  refine (Finset.abs_sum_le_sum_abs _ _).trans ((Finset.sum_le_card_nsmul _ _ _ hrow).trans (le_of_eq ?_))
  rw [Finset.card_range, nsmul_eq_mul]
  push_cast
  ring

theorem abs_mul_le_mul {a b x y : R} (ha : |a| ≤ x) (hb : |b| ≤ y) : |a * b| ≤ x * y := by
  rw [abs_mul]
  exact mul_le_mul ha hb (abs_nonneg b) ((abs_nonneg a).trans ha)

/-- A product changes by at most what its factors change by. -/
theorem abs_mul_sub_mul_le {a a' b b' x y δ ε : R} (ha : |a - a'| ≤ δ) (hb : |b| ≤ y) (ha' : |a'| ≤ x)
    (hb' : |b - b'| ≤ ε) : |a * b - a' * b'| ≤ δ * y + x * ε := by
  calc |a * b - a' * b'| = |(a - a') * b + a' * (b - b')| := by ring_nf
    _ ≤ |(a - a') * b| + |a' * (b - b')| := abs_add_le _ _
    _ ≤ δ * y + x * ε := add_le_add (abs_mul_le_mul ha hb) (abs_mul_le_mul ha' hb')

end

/-! ### The columns of the basis table are nearly orthogonal -/

/-- The row weight: `weight k l ^ 2` is close to `rowWeight k * rowWeight l`. -/
def rowWeight (k : Nat) : Int := if k = 0 then 2 ^ 30 else 2 ^ 31

theorem abs_weight_sq_sub_le (k l : Nat) : |weight k l ^ 2 - rowWeight k * rowWeight l| ≤ 2 ^ 26 := by
  by_cases hk : k = 0 <;> by_cases hl : l = 0 <;> simp [weight, rowWeight, hk, hl]

/-- The weighted product of two columns of the basis table. -/
def gram (i i' : Nat) : Int := sum8 fun k => rowWeight k * basis k i * basis k i'

/-- 2^93 times the identity matrix. -/
def idealGram (i i' : Nat) : Int := if i = i' then 2 ^ 93 else 0

theorem abs_gram_sub_le : ∀ i < 8, ∀ i' < 8, |gram i i' - idealGram i i'| ≤ 2 ^ 62 := by decide +kernel

theorem abs_gram_le : ∀ i < 8, ∀ i' < 8, |gram i i'| ≤ 2 ^ 94 := by decide +kernel

theorem abs_idealGram_le (i i' : Nat) : |idealGram i i'| ≤ 2 ^ 93 := by
  unfold idealGram; split <;> decide

theorem abs_gram_mul_sub_le {i j i' j' : Nat} (hi : i < 8) (hj : j < 8) (hi' : i' < 8) (hj' : j' < 8) :
    |gram i i' * gram j j' - idealGram i i' * idealGram j j'| ≤ 2 ^ 157 :=
  (abs_mul_sub_mul_le (abs_gram_sub_le i hi i' hi') (abs_gram_le j hj j' hj') (abs_idealGram_le i i')
    (abs_gram_sub_le j hj j' hj')).trans (by norm_num)

theorem sum_pixels_mul_idealGram (P : Nat → Nat → Int) {i j : Nat} (hi : i < 8) (hj : j < 8) :
    ∑ i' ∈ Finset.range 8, ∑ j' ∈ Finset.range 8, P i' j' * (idealGram i i' * idealGram j j') =
      2 ^ 186 * P i j := by
  simp only [idealGram, mul_ite, ite_mul, mul_zero, zero_mul, Finset.sum_ite_eq, Finset.mem_range, hi, hj, if_true]
  ring

/-! ### Two passes (R127) -/

/-- What the inverse sum would be of exact coefficients and a separable weight. -/
def idealIdctSum (P : Nat → Nat → Int) (i j : Nat) : Int :=
  ∑ k ∈ Finset.range 8, ∑ l ∈ Finset.range 8,
    fdctSum P k l * (rowWeight k * rowWeight l * (basis k i * basis l j))

/-- The sums change order: forward and inverse together are `gram` on the rows and on the columns. -/
theorem idealIdctSum_eq_gram (P : Nat → Nat → Int) (i j : Nat) : idealIdctSum P i j =
    ∑ i' ∈ Finset.range 8, ∑ j' ∈ Finset.range 8, P i' j' * (gram i i' * gram j j') := by
  simp only [idealIdctSum, fdctSum_eq_sum, Finset.sum_mul]
  rw [Finset.sum_comm_cycle]
  refine Finset.sum_congr rfl fun i' _ => ?_
  rw [Finset.sum_comm_cycle]
  refine Finset.sum_congr rfl fun j' _ => ?_
  simp only [gram, sum8_eq_sum, Finset.sum_mul_sum]
  simp only [Finset.mul_sum]
  exact Finset.sum_congr rfl fun k _ => Finset.sum_congr rfl fun l _ => by ring

theorem abs_idealIdctSum_sub_le {P : Nat → Nat → Int} (hP : IsPixelBlock P) {i j : Nat} (hi : i < 8) (hj : j < 8) :
    |idealIdctSum P i j - 2 ^ 186 * P i j| ≤ 2 ^ 171 := by
  rw [idealIdctSum_eq_gram, ← sum_pixels_mul_idealGram P hi hj]
  simp only [← Finset.sum_sub_distrib, ← mul_sub]
  refine (abs_double_sum_le (c := 2 ^ 8 * 2 ^ 157) fun i' hi' j' hj' => ?_).trans (by norm_num)
  have hpixel : |P i' j'| ≤ 2 ^ 8 := abs_le.mpr (by have := hP i' hi' j' hj'; omega)
  exact abs_mul_le_mul hpixel (abs_gram_mul_sub_le hi hj hi' hj')

/-- The rounding of R117 is at most one half of a unit. -/
theorem abs_fdctBlock_sub_le (P : Nat → Nat → Int) (k l : Nat) :
    |fdctBlock P k l * 2 ^ 61 - fdctSum P k l * weight k l| ≤ 2 ^ 60 := by
  obtain ⟨hlo, hhi⟩ := rhu_bounds (fdctSum P k l * weight k l) 61
  rw [abs_le, fdctBlock]
  omega

/-- One term of the inverse sum against its ideal: the rounding of the coefficient and the weight's. -/
theorem abs_idctTerm_sub_le {P : Nat → Nat → Int} (hP : IsPixelBlock P) {k l i j : Nat} (hk : k < 8) (hl : l < 8)
    (hi : i < 8) (hj : j < 8) :
    |2 ^ 61 * (fdctBlock P k l * weight k l * basis k i * basis l j) -
      fdctSum P k l * (rowWeight k * rowWeight l * (basis k i * basis l j))| ≤ 2 ^ 161 := by
  have hweight : |weight k l| ≤ 2 ^ 31 := by rw [abs_of_pos (weight_pos k l)]; exact weight_le k l
  have hbasis := abs_mul_le_mul (abs_basis_le k hk i hi) (abs_basis_le l hl j hj)
  have herror : |(fdctBlock P k l * 2 ^ 61 - fdctSum P k l * weight k l) * weight k l +
      fdctSum P k l * (weight k l ^ 2 - rowWeight k * rowWeight l)| ≤ 2 ^ 60 * 2 ^ 31 + 2 ^ 74 * 2 ^ 26 :=
    (abs_add_le _ _).trans (add_le_add (abs_mul_le_mul (abs_fdctBlock_sub_le P k l) hweight)
      (abs_mul_le_mul (abs_fdctSum_lt hP hk hl).le (abs_weight_sq_sub_le k l)))
  calc |2 ^ 61 * (fdctBlock P k l * weight k l * basis k i * basis l j) -
        fdctSum P k l * (rowWeight k * rowWeight l * (basis k i * basis l j))|
      = |((fdctBlock P k l * 2 ^ 61 - fdctSum P k l * weight k l) * weight k l +
          fdctSum P k l * (weight k l ^ 2 - rowWeight k * rowWeight l)) * (basis k i * basis l j)| := by ring_nf
    _ ≤ (2 ^ 60 * 2 ^ 31 + 2 ^ 74 * 2 ^ 26) * (2 ^ 30 * 2 ^ 30) := abs_mul_le_mul herror hbasis
    _ ≤ 2 ^ 161 := by norm_num

theorem abs_idctSum_fdctBlock_sub_idealIdctSum_le {P : Nat → Nat → Int} (hP : IsPixelBlock P) {i j : Nat}
    (hi : i < 8) (hj : j < 8) : |2 ^ 61 * idctSum (fdctBlock P) i j - idealIdctSum P i j| ≤ 2 ^ 167 := by
  simp only [idctSum_eq_sum, idealIdctSum, Finset.mul_sum, ← Finset.sum_sub_distrib]
  exact (abs_double_sum_le fun k hk l hl => abs_idctTerm_sub_le hP hk hl hi hj).trans (by norm_num)

/-- R127: the value before truncation is the pixel plus an error `e`, |e| below 2^-13. -/
theorem abs_idctSum_fdctBlock_sub_lt {P : Nat → Nat → Int} (hP : IsPixelBlock P) {i j : Nat} (hi : i < 8)
    (hj : j < 8) : |idctSum (fdctBlock P) i j - 2 ^ 125 * P i j| < 2 ^ 112 := by
  have h₁ := abs_le.mp (abs_idctSum_fdctBlock_sub_idealIdctSum_le hP hi hj)
  have h₂ := abs_le.mp (abs_idealIdctSum_sub_le hP hi hj)
  rw [abs_lt]
  omega

theorem floor_idctSum_fdctBlock {P : Nat → Nat → Int} (hP : IsPixelBlock P) {i j : Nat} (hi : i < 8) (hj : j < 8) :
    idctSum (fdctBlock P) i j / 2 ^ 125 = P i j - 1 ∨ idctSum (fdctBlock P) i j / 2 ^ 125 = P i j := by
  have h := abs_lt.mp (abs_idctSum_fdctBlock_sub_lt hP hi hj)
  omega

end Sys2Proof.Machine

namespace Sys2Proof.Proofs

open Sys2Proof.Machine

/-- Settles O24: the exact value is so near the pixel that its floor is the pixel or one lower; below 0 it saturates. -/
theorem roundTripWithinOne : Obligations.RoundTripWithinOne := by
  unfold Obligations.RoundTripWithinOne
  intro P hP i hi j hj
  have hpixel := hP i hi j hj
  have hfloor := floor_idctSum_fdctBlock hP hi hj
  rw [idctBlock_eq_floor, clamp8]
  omega

end Sys2Proof.Proofs

/-! PROOF. The forward transform against the real DCT (R126). The 20 digits of R112's last column, proved to be the
cosines, stand between the 30-bit table and the real formula of R110: the table is compared with the digits in the
integers, by the positive and the negative parts of the 64 kernel errors as the rule says, and the digits with the real
numbers by a bound that is far below. Settles O25. -/

namespace Sys2Proof.Machine

/-! ### The signed table of R113 -/

/-- r' of R113: the angle folded into the first half turn. -/
def foldIndex (n : Nat) : Nat := if n % 32 ≤ 16 then n % 32 else 32 - n % 32

theorem foldIndex_le (n : Nat) : foldIndex n ≤ 16 := by
  unfold foldIndex; split <;> omega

/-- R113 for magnitudes of any kind. -/
def signedTable {R : Type} [Neg R] (M : Nat → R) (n : Nat) : R :=
  if foldIndex n ≤ 8 then M (foldIndex n) else -M (16 - foldIndex n)

/-- The model's table is R113 on the magnitudes of R112; `signedTable cosDigits` is R113 on their 20 digits. -/
theorem cosTable_eq_signedTable (n : Nat) : cosTable n = signedTable cosMagnitude n := rfl

/-- The cosine of n sixteenths of π. -/
noncomputable def cosAt (n : Nat) : ℝ := Real.cos (n * Real.pi / 16)

theorem cosAt_mod (n : Nat) : cosAt (n % 32) = cosAt n := by
  have hn : (n : ℝ) = (n % 32 : Nat) + 32 * (n / 32 : Nat) := by exact_mod_cast (Nat.mod_add_div n 32).symm
  rw [cosAt, cosAt, hn, ← Real.cos_add_nat_mul_two_pi _ (n / 32)]
  ring_nf

theorem cosAt_mirror {n : Nat} (hn : n ≤ 32) : cosAt (32 - n) = cosAt n := by
  rw [cosAt, cosAt, Nat.cast_sub hn, ← Real.cos_two_pi_sub]
  push_cast
  ring_nf

theorem cosAt_sixteen_sub {n : Nat} (hn : n ≤ 16) : cosAt (16 - n) = -cosAt n := by
  rw [cosAt, cosAt, Nat.cast_sub hn, ← Real.cos_pi_sub]
  push_cast
  ring_nf

/-- R113's table of the real cosines is the cosine. -/
theorem signedTable_cosAt (n : Nat) : signedTable cosAt n = cosAt n := by
  have hfold : cosAt (foldIndex n) = cosAt n := by
    unfold foldIndex
    split
    · exact cosAt_mod n
    · rw [cosAt_mirror (by omega), cosAt_mod]
  unfold signedTable
  split
  · exact hfold
  · rw [cosAt_sixteen_sub (foldIndex_le n), neg_neg, hfold]

/-! ### Twenty digits of the cosines (R112) -/

/-- The column "exact cos(m·π/16) (20 digits)" of R112, in units of 10^-20. -/
def cosDigits : Nat → Int
  | 0 => 100000000000000000000
  | 1 => 98078528040323044913
  | 2 => 92387953251128675613
  | 3 => 83146961230254523708
  | 4 => 70710678118654752440
  | 5 => 55557023301960222474
  | 6 => 38268343236508977173
  | 7 => 19509032201612826785
  | _ => 0

/-- The cosine of n sixteenths of π is `d` units of 10^-20, up to `ε` units. -/
def CosNear (n : Nat) (d ε : Int) : Prop := |10 ^ 20 * cosAt n - (d : ℝ)| ≤ (ε : ℝ)

theorem CosNear.mono {n : Nat} {d δ ε : Int} (h : CosNear n d δ) (hle : δ ≤ ε) : CosNear n d ε :=
  le_trans h (by exact_mod_cast hle)

theorem CosNear.supplement {m n : Nat} {d ε : Int} (h : CosNear n d ε) (hm : m + n = 16) : CosNear m (-d) ε := by
  obtain rfl : m = 16 - n := by omega
  rwa [CosNear, cosAt_sixteen_sub (by omega), mul_neg, Int.cast_neg, neg_sub_neg, abs_sub_comm]

/-- From an angle to its half, by cos² x = (1 + cos 2x) / 2. -/
theorem CosNear.half {m n : Nat} {d δ e ε : Int} (h : CosNear m d δ) (hm : m = 2 * n) (hn : n ≤ 8)
    (hlo : 2 * (e - ε) ^ 2 ≤ 10 ^ 20 * (10 ^ 20 + d - δ)) (hhi : 10 ^ 20 * (10 ^ 20 + d + δ) ≤ 2 * (e + ε) ^ 2)
    (hpos : 0 ≤ e + ε) : CosNear n e ε := by
  subst hm
  have hcos : 0 ≤ cosAt n := by
    have hn' : (n : ℝ) ≤ 8 := by exact_mod_cast hn
    refine Real.cos_nonneg_of_neg_pi_div_two_le_of_le ?_ ?_ <;> nlinarith [Real.pi_pos]
  have hsq : 2 * (10 ^ 20 * cosAt n) ^ 2 = 10 ^ 20 * (10 ^ 20 + 10 ^ 20 * cosAt (2 * n)) := by
    rw [mul_pow, cosAt, Real.cos_sq, cosAt]
    push_cast
    ring_nf
  obtain ⟨hδ, hδ'⟩ := abs_le.mp h
  rify at hlo hhi hpos
  have hlower : (e - ε : ℝ) ≤ 10 ^ 20 * cosAt n :=
    le_of_abs_le (abs_le_of_sq_le_sq (by linarith) (by positivity))
  have hupper : 10 ^ 20 * cosAt n ≤ (e + ε : ℝ) := le_of_abs_le (abs_le_of_sq_le_sq (by linarith) hpos)
  rw [CosNear, abs_le]
  constructor <;> linarith

/-- R112's digits are the cosines, from cos(π/2) = 0 by halving the angle three times. -/
theorem cosNear_cosDigits : ∀ m ≤ 8, CosNear m (cosDigits m) 4 := by
  have h0 : CosNear 0 (cosDigits 0) 0 := by norm_num [CosNear, cosAt, cosDigits]
  have h8 : CosNear 8 (cosDigits 8) 0 := by
    have hright : (8 * Real.pi / 16 : ℝ) = Real.pi / 2 := by ring
    simp [CosNear, cosAt, cosDigits, hright]
  have h4 : CosNear 4 (cosDigits 4) 1 := h8.half rfl (by decide) (by decide) (by decide) (by decide)
  have h12 : CosNear 12 (-cosDigits 4) 1 := h4.supplement rfl
  have h2 : CosNear 2 (cosDigits 2) 2 := h4.half rfl (by decide) (by decide) (by decide) (by decide)
  have h6 : CosNear 6 (cosDigits 6) 2 := h12.half rfl (by decide) (by decide) (by decide) (by decide)
  have h10 : CosNear 10 (-cosDigits 6) 2 := h6.supplement rfl
  have h14 : CosNear 14 (-cosDigits 2) 2 := h2.supplement rfl
  have h1 : CosNear 1 (cosDigits 1) 4 := h2.half rfl (by decide) (by decide) (by decide) (by decide)
  have h3 : CosNear 3 (cosDigits 3) 4 := h6.half rfl (by decide) (by decide) (by decide) (by decide)
  have h5 : CosNear 5 (cosDigits 5) 4 := h10.half rfl (by decide) (by decide) (by decide) (by decide)
  have h7 : CosNear 7 (cosDigits 7) 4 := h14.half rfl (by decide) (by decide) (by decide) (by decide)
  intro m hm
  interval_cases m
  exacts [h0.mono (by decide), h1, h2.mono (by decide), h3, h4.mono (by decide), h5, h6.mono (by decide), h7,
    h8.mono (by decide)]

theorem cosNear_signedTable (n : Nat) : CosNear n (signedTable cosDigits n) 4 := by
  rw [CosNear, ← signedTable_cosAt, signedTable, signedTable]
  split
  · next h => exact cosNear_cosDigits _ h
  · next h =>
    rw [mul_neg, Int.cast_neg, neg_sub_neg, abs_sub_comm]
    exact cosNear_cosDigits _ (by omega)

theorem abs_cosDigits_le (m : Nat) : |cosDigits m| ≤ 10 ^ 20 := by
  unfold cosDigits; split <;> decide

theorem abs_signedTable_cosDigits_le (n : Nat) : |signedTable cosDigits n| ≤ 10 ^ 20 := by
  unfold signedTable
  split
  · exact abs_cosDigits_le _
  · rw [abs_neg]
    exact abs_cosDigits_le _

/-! ### The kernels: what a pixel is weighted by in one coefficient -/

/-- The weight of R115 from R112's digits: 1, 2 or √2 = 2 cos(π/4), in units of 10^-20. -/
def weightDigits (k l : Nat) : Int :=
  if k = 0 ∧ l = 0 then 10 ^ 20 else if k ≠ 0 ∧ l ≠ 0 then 2 * 10 ^ 20 else 2 * cosDigits 4

theorem abs_weightDigits_le (k l : Nat) : |weightDigits k l| ≤ 2 * 10 ^ 20 := by
  unfold weightDigits; split_ifs <;> decide

/-- The kernel of R110 in digits: 8 times the real one, in units of 10^-60. -/
def digitsKernel (k l i j : Nat) : Int :=
  weightDigits k l * (signedTable cosDigits ((2 * i + 1) * k) * signedTable cosDigits ((2 * j + 1) * l))

/-- The kernel of R117 (8 times the real one, 90 fraction bits) less the digits, in units of 2^-90 · 10^-60. -/
def kernelError (k l i j : Nat) : Int :=
  10 ^ 60 * (weight k l * (basis k i * basis l j)) - 2 ^ 90 * digitsKernel k l i j

/-- R126's sums of the positive and of the negative parts of the kernel errors; 255 times each is below 5.975e-7. -/
theorem maxPixelSum_kernelError_le : ∀ k < 8, ∀ l < 8,
    maxPixelSum (kernelError k l) ≤ 478 * 10 ^ 52 * 2 ^ 90 ∧
    maxPixelSum (fun i j => -kernelError k l i j) ≤ 478 * 10 ^ 52 * 2 ^ 90 := by decide +kernel

/-- sqrt(Ck) of R110. -/
noncomputable def normFactor (k : Nat) : ℝ := √(if k = 0 then 1 / 8 else 2 / 8)

theorem normFactor_zero : normFactor 0 = √2 / 4 := by
  rw [normFactor, if_pos rfl, show (1 / 8 : ℝ) = 2 / 4 ^ 2 by norm_num, Real.sqrt_div (by norm_num),
    Real.sqrt_sq (by norm_num)]

theorem normFactor_of_ne_zero {k : Nat} (hk : k ≠ 0) : normFactor k = 1 / 2 := by
  rw [normFactor, if_neg hk, show (2 / 8 : ℝ) = (1 / 2) ^ 2 by norm_num, Real.sqrt_sq (by norm_num)]

theorem abs_sqrt_two_sub_le : |10 ^ 20 * √2 - 2 * (cosDigits 4 : ℝ)| ≤ 8 := by
  have h := cosNear_cosDigits 4 (by decide)
  have hcos : cosAt 4 = √2 / 2 := by
    rw [cosAt, ← Real.cos_pi_div_four]
    push_cast
    ring_nf
  rw [CosNear, hcos, abs_le] at h
  push_cast at h
  rw [abs_le]
  constructor <;> linarith

/-- The scale factor of R110 is an eighth of the weight. -/
theorem abs_normFactor_sub_weightDigits_le (k l : Nat) :
    |8 * 10 ^ 20 * (normFactor k * normFactor l) - weightDigits k l| ≤ 8 := by
  have hmixed : (8 * 10 ^ 20 * (√2 / 4 * (1 / 2)) : ℝ) = 10 ^ 20 * √2 := by ring
  have hdc : (8 * 10 ^ 20 * (√2 / 4 * (√2 / 4)) : ℝ) = 10 ^ 20 := by
    linear_combination (10 ^ 20 / 2) * Real.mul_self_sqrt (show (0 : ℝ) ≤ 2 by norm_num)
  by_cases hk : k = 0
  · by_cases hl : l = 0
    · rw [hk, hl, normFactor_zero, hdc]
      norm_num [weightDigits]
    · rw [hk, normFactor_zero, normFactor_of_ne_zero hl, hmixed]
      simpa [weightDigits, hl] using abs_sqrt_two_sub_le
  · by_cases hl : l = 0
    · rw [hl, mul_comm (normFactor k), normFactor_zero, normFactor_of_ne_zero hk, hmixed]
      simpa [weightDigits, hk] using abs_sqrt_two_sub_le
    · rw [normFactor_of_ne_zero hk, normFactor_of_ne_zero hl]
      norm_num [weightDigits, hk, hl]

/-- The kernel of R110. -/
noncomputable def realKernel (k l i j : Nat) : ℝ :=
  normFactor k * normFactor l * (cosAt ((2 * i + 1) * k) * cosAt ((2 * j + 1) * l))

theorem abs_cosAt_le (n : Nat) : |10 ^ 20 * cosAt n| ≤ 10 ^ 20 := by
  rw [abs_mul, abs_of_pos (by positivity)]
  exact mul_le_of_le_one_right (by positivity) (Real.abs_cos_le_one _)

/-- The digits' kernel is the real one: an error in each of its three factors. -/
theorem abs_realKernel_sub_digitsKernel_le (k l i j : Nat) :
    |8 * 10 ^ 60 * realKernel k l i j - digitsKernel k l i j| ≤ 24 * 10 ^ 40 := by
  have hdigits (n : Nat) : |((signedTable cosDigits n : Int) : ℝ)| ≤ 10 ^ 20 := by
    exact_mod_cast abs_signedTable_cosDigits_le n
  have hweight : |(weightDigits k l : ℝ)| ≤ 2 * 10 ^ 20 := by exact_mod_cast abs_weightDigits_le k l
  have hpair := abs_mul_sub_mul_le (cosNear_signedTable ((2 * i + 1) * k)) (abs_cosAt_le ((2 * j + 1) * l))
    (hdigits ((2 * i + 1) * k)) (cosNear_signedTable ((2 * j + 1) * l))
  have htriple := abs_mul_sub_mul_le (abs_normFactor_sub_weightDigits_le k l)
    (abs_mul_le_mul (abs_cosAt_le ((2 * i + 1) * k)) (abs_cosAt_le ((2 * j + 1) * l))) hweight hpair
  rw [digitsKernel, realKernel]
  push_cast at htriple ⊢
  refine le_trans (le_of_eq ?_) (htriple.trans (by norm_num))
  ring_nf

/-! ### The transform against the real DCT (R126) -/

/-- Freal of R110. -/
noncomputable def realDct (P : Nat → Nat → Int) (k l : Nat) : ℝ :=
  ∑ i ∈ Finset.range 8, ∑ j ∈ Finset.range 8, (P i j : ℝ) * realKernel k l i j

theorem realDct_eq (P : Nat → Nat → Int) (k l : Nat) : realDct P k l =
    Real.sqrt (if k = 0 then 1 / 8 else 2 / 8) * Real.sqrt (if l = 0 then 1 / 8 else 2 / 8) *
      ∑ i ∈ Finset.range 8, ∑ j ∈ Finset.range 8, (P i j : ℝ) *
        Real.cos ((2 * i + 1) * Real.pi * k / 16) * Real.cos ((2 * j + 1) * Real.pi * l / 16) := by
  have hcos (i k : Nat) : cosAt ((2 * i + 1) * k) = Real.cos ((2 * i + 1) * Real.pi * k / 16) := by
    rw [cosAt]
    push_cast
    ring_nf
  simp only [realDct, realKernel, normFactor, hcos, Finset.mul_sum]
  exact Finset.sum_congr rfl fun i _ => Finset.sum_congr rfl fun j _ => by ring

/-- The transform with the digits' kernel. -/
def digitsDct (P : Nat → Nat → Int) (k l : Nat) : Int :=
  ∑ i ∈ Finset.range 8, ∑ j ∈ Finset.range 8, P i j * digitsKernel k l i j

theorem abs_realDct_sub_digitsDct_le {P : Nat → Nat → Int} (hP : IsPixelBlock P) (k l : Nat) :
    |8 * 10 ^ 60 * realDct P k l - digitsDct P k l| ≤ 64 * (255 * (24 * 10 ^ 40)) := by
  have hdiff : 8 * 10 ^ 60 * realDct P k l - digitsDct P k l = ∑ i ∈ Finset.range 8, ∑ j ∈ Finset.range 8,
      (P i j : ℝ) * (8 * 10 ^ 60 * realKernel k l i j - digitsKernel k l i j) := by
    simp only [realDct, digitsDct, Finset.mul_sum, Int.cast_sum, Int.cast_mul, ← Finset.sum_sub_distrib]
    exact Finset.sum_congr rfl fun i _ => Finset.sum_congr rfl fun j _ => by ring
  rw [hdiff]
  refine abs_double_sum_le fun i hi j hj => abs_mul_le_mul ?_ (abs_realKernel_sub_digitsKernel_le k l i j)
  obtain ⟨h0, h255⟩ := hP i hi j hj
  rw [abs_of_nonneg (by exact_mod_cast h0)]
  exact_mod_cast h255

theorem abs_fdctSum_sub_digitsDct_le {P : Nat → Nat → Int} (hP : IsPixelBlock P) {k l : Nat} (hk : k < 8)
    (hl : l < 8) : |10 ^ 60 * (fdctSum P k l * weight k l) - 2 ^ 90 * digitsDct P k l| ≤ 478 * 10 ^ 52 * 2 ^ 90 := by
  have hdiff : 10 ^ 60 * (fdctSum P k l * weight k l) - 2 ^ 90 * digitsDct P k l =
      ∑ i ∈ Finset.range 8, ∑ j ∈ Finset.range 8, P i j * kernelError k l i j := by
    simp only [fdctSum_eq_sum_mul, digitsDct, kernelError, Finset.sum_mul, Finset.mul_sum, ← Finset.sum_sub_distrib]
    exact Finset.sum_congr rfl fun i _ => Finset.sum_congr rfl fun j _ => by ring
  obtain ⟨hpos, hneg⟩ := maxPixelSum_kernelError_le k hk l hl
  rw [hdiff, abs_le]
  exact ⟨(neg_le_neg hneg).trans (neg_maxPixelSum_le hP _), (sum_pixels_mul_le hP _).trans hpos⟩

/-- R126: the rounding, the tables' error and the digits' error together. -/
theorem abs_fdctBlock_sub_realDct_lt {P : Nat → Nat → Int} (hP : IsPixelBlock P) {k l : Nat} (hk : k < 8)
    (hl : l < 8) : |(fdctBlock P k l : ℝ) / 2 ^ 32 - realDct P k l| < 6 / 10 ^ 7 := by
  have hround := abs_fdctBlock_sub_le P k l
  have htable := abs_fdctSum_sub_digitsDct_le hP hk hl
  have hdigits := abs_realDct_sub_digitsDct_le hP k l
  rify at hround htable
  rw [abs_le] at hround htable hdigits
  rw [abs_lt]
  constructor <;> linarith

end Sys2Proof.Machine

namespace Sys2Proof.Proofs

open Sys2Proof.Machine

/-- Settles O25: `realDct` is the formula of R110. -/
theorem forwardAccuracy : Obligations.ForwardAccuracy := by
  unfold Obligations.ForwardAccuracy
  intro P hP k hk l hl
  rw [← realDct_eq]
  exact abs_fdctBlock_sub_realDct_lt hP hk hl

end Sys2Proof.Proofs

/-! PROOF. The Coefficient Selector: the scan of R140 keeps the last position of largest magnitude it has seen, so
Select is the last maximum of R141; SEL reports it (R142). Settles O29 and O30. -/

namespace Sys2Proof.Machine

variable {F G : Nat → Nat → Int}

/-! ### The scan order -/

/-- The row-major index of a position, as SELPOS holds it (R32). -/
def rowMajor (p : Nat × Nat) : Nat := 8 * p.1 + p.2

theorem mem_scanPositions_iff {r c : Nat} : (r, c) ∈ scanPositions ↔ r < 8 ∧ c < 8 ∧ (r, c) ≠ (0, 0) := by
  rw [scanPositions, List.mem_filter, List.mem_map, decide_eq_true_iff, ← and_assoc]
  refine and_congr_left fun _ => ⟨?_, fun ⟨hr, hc⟩ => ⟨8 * r + c, ?_, ?_⟩⟩
  · rintro ⟨n, hn, heq⟩
    rw [List.mem_range] at hn
    rw [Prod.mk.injEq] at heq
    omega
  · rw [List.mem_range]
    omega
  · rw [Prod.mk.injEq]
    omega

/-- The scan is in row-major order: "later" in R140 is "larger index" in R141. -/
theorem scanPositions_pairwise : scanPositions.Pairwise fun p q => rowMajor p < rowMajor q := by
  refine List.Pairwise.filter _ (List.pairwise_map.2 (List.pairwise_lt_range.imp fun {m n} hlt => ?_))
  rwa [rowMajor, rowMajor, Nat.div_add_mod, Nat.div_add_mod]

theorem scanPositions_eq_cons : scanPositions = (0, 1) :: scanPositions.tail := rfl

/-! ### The last maximum -/

/-- `p` is the last of the positions `l` with the largest magnitude (R141). -/
structure IsLastMax (F : Nat → Nat → Int) (l : List (Nat × Nat)) (p : Nat × Nat) : Prop where
  mem : p ∈ l
  le : ∀ q ∈ l, (F q.1 q.2).natAbs ≤ (F p.1 p.2).natAbs
  last : ∀ q ∈ l, (F q.1 q.2).natAbs = (F p.1 p.2).natAbs → rowMajor q ≤ rowMajor p

theorem isLastMax_singleton (F : Nat → Nat → Int) (p : Nat × Nat) : IsLastMax F [p] p where
  mem := List.mem_singleton_self p
  le q hq := by rw [List.mem_singleton.1 hq]
  last q hq _ := by rw [List.mem_singleton.1 hq]

/-- A smaller magnitude at the end changes nothing. -/
theorem IsLastMax.append_of_lt {l : List (Nat × Nat)} {p a : Nat × Nat} (h : IsLastMax F l p)
    (hlt : (F a.1 a.2).natAbs < (F p.1 p.2).natAbs) : IsLastMax F (l ++ [a]) p where
  mem := List.mem_append_left _ h.mem
  le := List.forall_mem_append.2 ⟨h.le, List.forall_mem_singleton.2 hlt.le⟩
  last := List.forall_mem_append.2 ⟨h.last, List.forall_mem_singleton.2 fun heq => absurd heq hlt.ne⟩

/-- An equal or larger magnitude at a later position takes over. -/
theorem IsLastMax.append_of_le {l : List (Nat × Nat)} {p a : Nat × Nat} (h : IsLastMax F l p)
    (hle : (F p.1 p.2).natAbs ≤ (F a.1 a.2).natAbs) (hlater : ∀ q ∈ l, rowMajor q < rowMajor a) :
    IsLastMax F (l ++ [a]) a where
  mem := List.mem_append_right _ (List.mem_singleton_self a)
  le := List.forall_mem_append.2 ⟨fun q hq => (h.le q hq).trans hle, List.forall_mem_singleton.2 le_rfl⟩
  last := List.forall_mem_append.2 ⟨fun q hq _ => (hlater q hq).le, List.forall_mem_singleton.2 fun _ => le_rfl⟩

/-- The scan carries the last maximum so far, with its magnitude. -/
theorem foldl_selectStep (F : Nat → Nat → Int) (p : Nat × Nat) (l : List (Nat × Nat))
    (hsorted : (p :: l).Pairwise fun q q' => rowMajor q < rowMajor q') :
    ∃ q, l.foldl (selectStep F) ((F p.1 p.2).natAbs, p) = ((F q.1 q.2).natAbs, q) ∧ IsLastMax F (p :: l) q := by
  induction l using List.reverseRecOn with
  | nil => exact ⟨p, rfl, isLastMax_singleton F p⟩
  | append_singleton l a ih =>
    rw [← List.cons_append, List.pairwise_append] at hsorted
    obtain ⟨hinit, -, hlater⟩ := hsorted
    obtain ⟨q, hscan, hq⟩ := ih hinit
    rw [List.foldl_append, hscan, ← List.cons_append, List.foldl_cons, List.foldl_nil, selectStep]
    split
    · next hle => exact ⟨a, rfl, hq.append_of_le hle fun q' hq' => hlater q' hq' a (List.mem_singleton_self a)⟩
    · next hlt => exact ⟨q, rfl, hq.append_of_lt (not_le.1 hlt)⟩

/-- R141: Select is the last maximum. The first position of the scan is taken whatever its magnitude. -/
theorem exists_select_eq (F : Nat → Nat → Int) : ∃ r c, select F = (r, c) ∧ IsLastMax F scanPositions (r, c) := by
  have hsorted := scanPositions_pairwise
  rw [scanPositions_eq_cons] at hsorted
  obtain ⟨⟨r, c⟩, hscan, hlast⟩ := foldl_selectStep F (0, 1) _ hsorted
  have hfirst : selectStep F (0, (0, 1)) (0, 1) = ((F 0 1).natAbs, (0, 1)) := if_pos (Nat.zero_le _)
  refine ⟨r, c, ?_, hlast⟩
  rw [select, scanPositions_eq_cons, List.foldl_cons, hfirst, hscan]

/-- Select depends on the AC magnitudes only. -/
theorem select_congr (h : ∀ r < 8, ∀ c < 8, (r, c) ≠ (0, 0) → (F r c).natAbs = (G r c).natAbs) :
    select F = select G := by
  refine congrArg Prod.snd (List.foldl_ext _ _ _ fun best ⟨r, c⟩ hp => ?_)
  obtain ⟨hr, hc, hac⟩ := mem_scanPositions_iff.1 hp
  rw [selectStep, selectStep, h r hr c hc hac]

/-- A zero AC block is one long tie, which its last position wins. -/
theorem select_of_ac_zero (h : ∀ r < 8, ∀ c < 8, (r, c) ≠ (0, 0) → F r c = 0) : select F = (7, 7) := by
  obtain ⟨r, c, hsel, hlast⟩ := exists_select_eq F
  obtain ⟨hr, hc, hac⟩ := mem_scanPositions_iff.1 hlast.mem
  have hcorner : (7, 7) ∈ scanPositions := mem_scanPositions_iff.2 (by decide)
  have hequal : F 7 7 = F r c := by
    rw [h r hr c hc hac, h 7 (by decide) 7 (by decide) (by decide)]
  have hle : 8 * 7 + 7 ≤ 8 * r + c := hlast.last (7, 7) hcorner (congrArg Int.natAbs hequal)
  rw [hsel, Prod.mk.injEq]
  omega

/-! ### The command -/

section
variable {s : State} {b : Bank}

theorem exec_sel_of_not_dimsOK (hd : ¬ dimsOK s.params (s.width b) (s.height b)) :
    exec (.sel b) s = .next (s.setErr .dimInv) := if_neg hd

theorem exec_sel_of_outside (hd : dimsOK s.params (s.width b) (s.height b))
    (hout : s.height b / 8 ≤ s.blkY.toNat ∨ s.width b / 8 ≤ s.blkX.toNat) :
    exec (.sel b) s = .next (s.setErr .blkRng) := (if_pos hd).trans (if_pos hout)

theorem exec_sel_of_inside (hd : dimsOK s.params (s.width b) (s.height b)) (hy : s.blkY.toNat < s.height b / 8)
    (hx : s.blkX.toNat < s.width b / 8) {r c : Nat}
    (hsel : select (s.coefBlock b (s.width b) s.blkY.toNat s.blkX.toNat) = (r, c)) :
    exec (.sel b) s = .next ((s.setSelection r c
      (s.coefWord b (blkIdx (s.width b) s.blkY.toNat s.blkX.toNat r c))).setErr .ok) := by
  have hin : ¬ (s.height b / 8 ≤ s.blkY.toNat ∨ s.width b / 8 ≤ s.blkX.toNat) := by omega
  have hrun : exec (.sel b) s = _ := (if_pos hd).trans (if_neg hin)
  change select (fun row col => s.coefAt b (blkIdx (s.width b) s.blkY.toNat s.blkX.toNat row col)) = (r, c) at hsel
  rw [hrun, hsel]

end

/-- SELVAL_HI : SELVAL_LO is the whole word (R33). -/
theorem State.setSelection_value (s : State) (r c : Nat) (v : CoefWord) :
    (s.setSelection r c v).selValHi ++ (s.setSelection r c v).selValLo = v :=
  (BitVec.extractLsb'_append_extractLsb'_eq_extractLsb' (by rfl)).trans BitVec.extractLsb'_eq_self

/-- SELPOS reads as the row-major index, which its six bits hold (R32). -/
theorem State.readReg_selPos_setSelection (s : State) {r c : Nat} (hr : r < 8) (hc : c < 8) (v : CoefWord) :
    (readReg (s.setSelection r c v) .selPos).toNat = 8 * r + c := by
  rw [readReg, selPosWord_toNat, State.setSelection_selPos, BitVec.toNat_ofNat, Nat.mod_eq_of_lt (by omega)]

end Sys2Proof.Machine

namespace Sys2Proof.Proofs

open Sys2Proof.Machine

/-- Settles O29: the scan carries the last maximum (`foldl_selectStep`). -/
theorem selectIsLastMaximum : Obligations.SelectIsLastMaximum := by
  unfold Obligations.SelectIsLastMaximum
  refine ⟨fun F => ?_, fun F => select_of_ac_zero, fun F G => select_congr⟩
  obtain ⟨r, c, hsel, hlast⟩ := exists_select_eq F
  obtain ⟨hr, hc, hac⟩ := mem_scanPositions_iff.1 hlast.mem
  refine ⟨r, c, hsel, hr, hc, hac, fun r' hr' c' hc' hac' => ?_⟩
  have hmem : (r', c') ∈ scanPositions := mem_scanPositions_iff.2 ⟨hr', hc', hac'⟩
  exact ⟨hlast.le _ hmem, hlast.last _ hmem⟩

/-- Settles O30: the position is in range and not (0, 0) by R141, so SELPOS holds it and is not 0; the frame is from
the table of writes (R45). -/
theorem selReportsSelection : Obligations.SelReportsSelection := by
  unfold Obligations.SelReportsSelection
  refine ⟨roundTrip (.sel .zero) rfl, roundTrip (.sel .one) rfl,
    fun b s => ⟨exec_sel_of_not_dimsOK, fun hd hy hx => ?_, exec_sel_of_outside⟩⟩
  obtain ⟨r, c, hsel, hlast⟩ := exists_select_eq (s.coefBlock b (s.width b) s.blkY.toNat s.blkX.toNat)
  obtain ⟨hr, hc, hac⟩ := mem_scanPositions_iff.1 hlast.mem
  have hrun := exec_sel_of_inside hd hy hx hsel
  have hpos := s.readReg_selPos_setSelection hr hc (s.coefWord b (blkIdx (s.width b) s.blkY.toNat s.blkX.toNat r c))
  refine ⟨_, r, c, hrun, hsel.symm, hpos, fun hzero => hac ?_, State.setSelection_value s r c _, rfl,
    exec_det hrun (by simp) (by simp), exec_unchanged hrun⟩
  have hsum : 8 * r + c = 0 := hpos.symm.trans (congrArg BitVec.toNat hzero)
  rw [Prod.mk.injEq]
  omega

end Sys2Proof.Proofs

/-! PROOF. The Embedder: the scan of R150 block by block in raster order, and the state after EMBED. Blocks of a plane
share no element, so the perturbation of one leaves the others as the transform made them. Settles O31, O32 and O34. -/

namespace Sys2Proof.Machine

/-! ### Perturb (R151) -/

theorem perturb_zero (c alpha : Int) : perturb c 0x00 alpha = sat64 (c + alpha) := rfl

theorem perturb_one (c alpha : Int) : perturb c 0x01 alpha = sat64 (c - alpha) := rfl

theorem perturb_range (c : Int) (m : Byte) (alpha : Int) :
    -2 ^ 63 ≤ perturb c m alpha ∧ perturb c m alpha ≤ 2 ^ 63 - 1 := by
  unfold perturb
  split <;> exact sat64_range _

theorem select_lt (F : Nat → Nat → Int) : (select F).1 < 8 ∧ (select F).2 < 8 := by
  obtain ⟨r, c, hsel, hlast⟩ := exists_select_eq F
  obtain ⟨hr, hc, -⟩ := mem_scanPositions_iff.1 hlast.mem
  rw [hsel]
  exact ⟨hr, hc⟩

/-- A block with the coefficient that Select chooses in it perturbed (R150). -/
def perturbBlock (alpha : Int) (m : Byte) (F : Nat → Nat → Int) (k l : Nat) : Int :=
  if (k, l) = select F then perturb (F k l) m alpha else F k l

theorem perturbBlock_congr {F G : Nat → Nat → Int} (h : ∀ k < 8, ∀ l < 8, F k l = G k l) (alpha : Int) (m : Byte)
    {k l : Nat} (hk : k < 8) (hl : l < 8) : perturbBlock alpha m F k l = perturbBlock alpha m G k l := by
  have hsel : select F = select G := select_congr fun r hr c hc _ => by rw [h r hr c hc]
  rw [perturbBlock, perturbBlock, hsel, h k hk l hl]

/-! ### The raster order (R22, R156) -/

theorem rasterBlocks_getElem? {w h y x : Nat} (hy : y < h / 8) (hx : x < w / 8) :
    (rasterBlocks w h)[y * (w / 8) + x]? = some (y, x) := by
  have hlt : y * (w / 8) + x < capacity w h := by
    calc y * (w / 8) + x < (y + 1) * (w / 8) := by rw [Nat.add_mul]; omega
      _ ≤ h / 8 * (w / 8) := Nat.mul_le_mul_right _ hy
      _ = capacity w h := Nat.mul_comm _ _
  rw [rasterBlocks, List.getElem?_map, List.getElem?_range hlt, Option.map_some, Nat.mul_comm,
    Nat.mul_add_div (by omega), Nat.div_eq_of_lt hx, Nat.mul_add_mod, Nat.mod_eq_of_lt hx, Nat.add_zero]

theorem nodup_rasterBlocks (w h : Nat) : (rasterBlocks w h).Nodup := by
  refine List.Nodup.map (fun m n heq => ?_) List.nodup_range
  obtain ⟨hdiv, hmod⟩ := Prod.mk.inj heq
  rw [← Nat.div_add_mod m (w / 8), hdiv, hmod, Nat.div_add_mod]

/-! ### One block of a plane -/

section
variable {w h : Nat} {blk blk' : Nat × Nat} {co : List Int}

/-- Two elements of two blocks of a plane are the same element only in the same block at the same position. -/
theorem blkIdx_inj (hw : w % 8 = 0) (hb : blk ∈ rasterBlocks w h) (hb' : blk' ∈ rasterBlocks w h) {r c r' c' : Nat}
    (hr : r < 8) (hc : c < 8) (hr' : r' < 8) (hc' : c' < 8) :
    blkIdx w blk.1 blk.2 r c = blkIdx w blk'.1 blk'.2 r' c' ↔ blk = blk' ∧ (r, c) = (r', c') := by
  obtain ⟨hy, hx⟩ := mem_rasterBlocks hb
  obtain ⟨hy', hx'⟩ := mem_rasterBlocks hb'
  obtain ⟨-, hdiv, hmod⟩ := blkIdx_facts hw hy hx hr hc
  obtain ⟨-, hdiv', hmod'⟩ := blkIdx_facts hw hy' hx' hr' hc'
  refine ⟨fun heq => ?_, ?_⟩
  · rw [heq] at hdiv hmod
    rw [Prod.ext_iff, Prod.mk.injEq]
    omega
  · rintro ⟨rfl, heq⟩
    obtain ⟨rfl, rfl⟩ := Prod.mk.inj heq
    rfl

theorem planeBlock_set (hw : w % 8 = 0) (hlen : co.length = w * h) (hb : blk ∈ rasterBlocks w h)
    (hb' : blk' ∈ rasterBlocks w h) {r c k l : Nat} (hr : r < 8) (hc : c < 8) (hk : k < 8) (hl : l < 8) (v : Int) :
    planeBlock (co.set (blkIdx w blk.1 blk.2 r c) v) w blk'.1 blk'.2 k l =
      if blk = blk' ∧ (r, c) = (k, l) then v else planeBlock co w blk'.1 blk'.2 k l := by
  obtain ⟨hy, hx⟩ := mem_rasterBlocks hb
  obtain ⟨hlt, -, -⟩ := blkIdx_facts hw hy hx hr hc
  simp only [planeBlock, List.getD, List.getElem?_set, blkIdx_inj hw hb hb' hr hc hk hl, hlen, if_pos hlt]
  split <;> rfl

/-- A visit of EMBED's loop perturbs the block it visits (R150). -/
theorem planeBlock_embedBlock_same (hw : w % 8 = 0) (hlen : co.length = w * h) (hb : blk ∈ rasterBlocks w h)
    (alpha : Int) (m : Byte) {k l : Nat} (hk : k < 8) (hl : l < 8) :
    planeBlock (embedBlock w alpha m co blk) w blk.1 blk.2 k l =
      perturbBlock alpha m (planeBlock co w blk.1 blk.2) k l := by
  obtain ⟨hr, hc⟩ := select_lt (planeBlock co w blk.1 blk.2)
  rw [embedBlock, planeBlock_set hw hlen hb hb hr hc hk hl, perturbBlock]
  by_cases hsel : (k, l) = select (planeBlock co w blk.1 blk.2)
  · simp [← hsel, planeBlock]
  · simp [hsel, Ne.symm hsel]

/-- A visit of EMBED's loop leaves every other block as it was. -/
theorem planeBlock_embedBlock_of_ne (hw : w % 8 = 0) (hlen : co.length = w * h) (hb : blk ∈ rasterBlocks w h)
    (hb' : blk' ∈ rasterBlocks w h) (hne : blk ≠ blk') (alpha : Int) (m : Byte) {k l : Nat} (hk : k < 8) (hl : l < 8) :
    planeBlock (embedBlock w alpha m co blk) w blk'.1 blk'.2 k l = planeBlock co w blk'.1 blk'.2 k l := by
  obtain ⟨hr, hc⟩ := select_lt (planeBlock co w blk.1 blk.2)
  rw [embedBlock, planeBlock_set hw hlen hb hb' hr hc hk hl, if_neg fun h => hne h.1]

end

/-! ### The scan (R150) -/

section
variable {w h n cnt : Nat} {msg : Nat → Byte} {alpha : Int} {blks : List (Nat × Nat)} {co : List Int} {k l : Nat}

/-- EMBED's loop counts the blocks it meets until the message ends (R153). -/
theorem embedScan_count (hcnt : cnt ≤ n) :
    (embedScan w n msg alpha blks co cnt).2 = min n (cnt + blks.length) := by
  induction blks generalizing co cnt with
  | nil => simpa [embedScan] using hcnt
  | cons blk rest ih =>
    rw [embedScan, List.length_cons]
    split
    · rw [ih (by omega)]
      omega
    · rw [ih hcnt]
      omega

/-- Blocks that the rest of the loop does not visit stay as they are. -/
theorem planeBlock_embedScan_of_notMem (hw : w % 8 = 0) (hlen : co.length = w * h)
    (hblks : ∀ b ∈ blks, b ∈ rasterBlocks w h) {blk : Nat × Nat} (hb : blk ∈ rasterBlocks w h) (hnot : blk ∉ blks)
    (hk : k < 8) (hl : l < 8) :
    planeBlock (embedScan w n msg alpha blks co cnt).1 w blk.1 blk.2 k l = planeBlock co w blk.1 blk.2 k l := by
  induction blks generalizing co cnt with
  | nil => rfl
  | cons head rest ih =>
    rw [List.forall_mem_cons] at hblks
    rw [List.mem_cons, not_or] at hnot
    rw [embedScan]
    split
    · rw [ih (by simpa using hlen) hblks.2 hnot.2,
        planeBlock_embedBlock_of_ne hw hlen hblks.1 hb (Ne.symm hnot.1) _ _ hk hl]
    · exact ih hlen hblks.2 hnot.2

/-- The `t`-th block that the loop visits takes message bit `cnt + t`, while there is one (R156). -/
theorem planeBlock_embedScan (hw : w % 8 = 0) (hlen : co.length = w * h) (hblks : ∀ b ∈ blks, b ∈ rasterBlocks w h)
    (hnodup : blks.Nodup) {t : Nat} {blk : Nat × Nat} (ht : blks[t]? = some blk) (hk : k < 8) (hl : l < 8) :
    planeBlock (embedScan w n msg alpha blks co cnt).1 w blk.1 blk.2 k l =
      if cnt + t < n then perturbBlock alpha (msg (cnt + t)) (planeBlock co w blk.1 blk.2) k l
      else planeBlock co w blk.1 blk.2 k l := by
  induction blks generalizing co cnt t with
  | nil => simp at ht
  | cons head rest ih =>
    have hb : blk ∈ rasterBlocks w h := hblks blk (List.mem_of_getElem? ht)
    rw [List.forall_mem_cons] at hblks
    rw [List.nodup_cons] at hnodup
    rw [embedScan]
    cases t with
    | zero =>
      obtain rfl : head = blk := by simpa using ht
      simp only [Nat.add_zero]
      split
      · rw [planeBlock_embedScan_of_notMem hw (by simpa using hlen) hblks.2 hb hnodup.1 hk hl,
          planeBlock_embedBlock_same hw hlen hb _ _ hk hl]
      · exact planeBlock_embedScan_of_notMem hw hlen hblks.2 hb hnodup.1 hk hl
    | succ t =>
      rw [List.getElem?_cons_succ] at ht
      have hne : head ≠ blk := fun heq => hnodup.1 (heq ▸ List.mem_of_getElem? ht)
      split
      · have hkept : ∀ k < 8, ∀ l < 8, planeBlock (embedBlock w alpha (msg cnt) co head) w blk.1 blk.2 k l =
            planeBlock co w blk.1 blk.2 k l := fun k hk l hl =>
          planeBlock_embedBlock_of_ne hw hlen hblks.1 hb hne _ _ hk hl
        rw [ih (by simpa using hlen) hblks.2 hnodup.2 ht, hkept k hk l hl, perturbBlock_congr hkept _ _ hk hl,
          Nat.add_right_comm cnt 1 t, Nat.add_assoc cnt t 1]
      · rw [ih hlen hblks.2 hnodup.2 ht, if_neg (by omega), if_neg (by omega)]

end

/-! ### Coefficient planes -/

theorem State.coefBlock_congr {s t : State} {b : Bank} (h : ∀ n, t.byteAt (coefId b) n = s.byteAt (coefId b) n) :
    t.coefBlock b = s.coefBlock b := by
  funext w y x k l
  simp only [State.coefBlock, State.coefAt, State.coefWord, h]

/-- `State.coefBlock_writeCoef` to the very ends of the 64-bit range, which saturation reaches. -/
theorem State.coefBlock_writeCoef_of_range {w h y x r c : Nat} (hw : w % 8 = 0) (hy : y < h / 8) (hx : x < w / 8)
    (hr : r < 8) (hc : c < 8) {cs : List Int} (hlen : cs.length = w * h)
    (hfit : -2 ^ 63 ≤ planeBlock cs w y x r c ∧ planeBlock cs w y x r c ≤ 2 ^ 63 - 1) (s : State) (b : Bank) :
    (s.writeCoef b cs).coefBlock b w y x r c = planeBlock cs w y x r c := by
  obtain ⟨hlt, -, -⟩ := blkIdx_facts hw hy hx hr hc
  obtain ⟨hlo, hhi⟩ := hfit
  rw [State.coefBlock, State.coefAt, State.coefWord_writeCoef, if_pos (hlen ▸ hlt), BitVec.toInt_ofInt]
  exact Int.bmod_eq_of_le (by simpa [planeBlock] using hlo) (by simpa [planeBlock] using Int.lt_add_one_of_le hhi)

/-! ### The state after EMBED -/

/-- What EMBED makes of the block (y, x) of bank 0 (R150): its transform, perturbed while there is a message bit. -/
def State.markedBlock (s : State) (y x k l : Nat) : Int :=
  if y * (s.width .zero / 8) + x < s.msgLen.toNat then
    perturbBlock s.alpha (s.byteAt .msgIn (y * (s.width .zero / 8) + x))
      (fdctBlock (s.pixelBlock .zero (s.width .zero) y x)) k l
  else fdctBlock (s.pixelBlock .zero (s.width .zero) y x) k l

/-- The state after EMBED when nothing is at fault. -/
def State.afterEmbed (s : State) : State :=
  let r := s.embedded (s.width .zero) (s.height .zero)
  ((((s.writeCoef .zero r.1).writePix .one (idctPlane r.1 (s.width .zero) (s.height .zero))).setDims1 s.w0
    s.h0).setBitCnt r.2).setErr .ok

section
variable {s : State}

theorem exec_embed_of_not_dimsOK (hd : ¬ dimsOK s.params (s.width .zero) (s.height .zero)) :
    exec .embed s = .next (s.setErr .dimInv) := if_neg hd

theorem exec_embed_of_not_messageOK (hd : dimsOK s.params (s.width .zero) (s.height .zero))
    (hm : ¬ s.messageOK (min s.msgLen.toNat (capacity (s.width .zero) (s.height .zero)))) :
    exec .embed s = .next (s.setErr .msgFmt) := (if_pos hd).trans (if_neg hm)

theorem exec_embed_of_messageOK (hd : dimsOK s.params (s.width .zero) (s.height .zero))
    (hm : s.messageOK (min s.msgLen.toNat (capacity (s.width .zero) (s.height .zero)))) :
    exec .embed s = .next s.afterEmbed := (if_pos hd).trans (if_pos hm)

theorem State.messageOK_iff {n : Nat} :
    s.messageOK n ↔ ∀ q < n, s.byteAt .msgIn q = 0x00 ∨ s.byteAt .msgIn q = 0x01 := by
  simp only [State.messageOK, List.mem_range]

@[simp] theorem State.afterEmbed_params (s : State) : s.afterEmbed.params = s.params := by simp [State.afterEmbed]
@[simp] theorem State.afterEmbed_msgLen (s : State) : s.afterEmbed.msgLen = s.msgLen := by simp [State.afterEmbed]
@[simp] theorem State.afterEmbed_w0 (s : State) : s.afterEmbed.w0 = s.w0 := by simp [State.afterEmbed]
@[simp] theorem State.afterEmbed_h0 (s : State) : s.afterEmbed.h0 = s.h0 := by simp [State.afterEmbed]
@[simp] theorem State.afterEmbed_w1 (s : State) : s.afterEmbed.w1 = s.w0 := by simp [State.afterEmbed]
@[simp] theorem State.afterEmbed_h1 (s : State) : s.afterEmbed.h1 = s.h0 := by simp [State.afterEmbed]
@[simp] theorem State.afterEmbed_err (s : State) : s.afterEmbed.err = .ok := by simp [State.afterEmbed]

@[simp] theorem State.afterEmbed_byteAt_pix0 (s : State) (n : Nat) :
    s.afterEmbed.byteAt .pix0 n = s.byteAt .pix0 n := by
  simp [State.afterEmbed, State.byteAt_writePix, State.byteAt_writeCoef_outside, pixId, coefId]

/-- R153: the count is what was embedded, cut at the capacity. -/
theorem State.afterEmbed_bitCnt (s : State) :
    s.afterEmbed.bitCnt.toNat = min s.msgLen.toNat (capacity (s.width .zero) (s.height .zero)) := by
  have hlt := s.msgLen.isLt
  simp only [State.afterEmbed, State.setErr_bitCnt, State.setBitCnt_bitCnt, State.embedded,
    embedScan_count (Nat.zero_le _), length_rasterBlocks, Nat.zero_add, BitVec.toNat_ofNat]
  exact Nat.mod_eq_of_lt (by omega)

/-- R155 on one block: where no bit is embedded, COEF0 holds the plain transform. -/
theorem State.markedBlock_of_le {y x : Nat} (hend : s.msgLen.toNat ≤ y * (s.width .zero / 8) + x) :
    s.markedBlock y x = fdctBlock (s.pixelBlock .zero (s.width .zero) y x) :=
  funext₂ fun _ _ => if_neg (by omega)

variable {y x k l : Nat}

theorem State.markedBlock_range (s : State) (y x : Nat) (hk : k < 8) (hl : l < 8) :
    -2 ^ 63 ≤ s.markedBlock y x k l ∧ s.markedBlock y x k l ≤ 2 ^ 63 - 1 := by
  have hlt := abs_lt.mp (abs_fdctBlock_lt (s.isPixelBlock_pixelBlock .zero (s.width .zero) y x) hk hl)
  unfold State.markedBlock perturbBlock
  split_ifs
  · exact perturb_range _ _ _
  all_goals omega

variable (hd : dimsOK s.params (s.width .zero) (s.height .zero)) (hy : y < s.height .zero / 8)
  (hx : x < s.width .zero / 8) (hk : k < 8) (hl : l < 8)

include hd hy hx hk hl

theorem State.planeBlock_embedded : planeBlock (s.embedded (s.width .zero) (s.height .zero)).1 (s.width .zero) y x k l =
    s.markedBlock y x k l := by
  have htransform : ∀ k < 8, ∀ l < 8,
      planeBlock (s.transformOf .zero (s.width .zero) (s.height .zero)) (s.width .zero) y x k l =
        fdctBlock (s.pixelBlock .zero (s.width .zero) y x) k l := fun k hk l hl =>
    s.planeBlock_transformOf hd.1 hy hx hk hl .zero
  rw [State.embedded, planeBlock_embedScan (blk := (y, x)) hd.1 (by simp) (fun _ hb => hb) (nodup_rasterBlocks _ _)
    (rasterBlocks_getElem? hy hx) hk hl, Nat.zero_add, htransform k hk l hl, perturbBlock_congr htransform _ _ hk hl]
  rfl

/-- COEF0 after EMBED; saturation (R151) makes every element fit. -/
theorem State.afterEmbed_coefBlock :
    s.afterEmbed.coefBlock .zero (s.width .zero) y x k l = s.markedBlock y x k l := by
  have hplane := State.planeBlock_embedded hd hy hx hk hl
  have hbytes (n : Nat) : s.afterEmbed.byteAt .coef0 n =
      (s.writeCoef .zero (s.embedded (s.width .zero) (s.height .zero)).1).byteAt .coef0 n := by
    simp [State.afterEmbed, State.byteAt_writePix, pixId]
  rw [State.coefBlock_congr (b := .zero) hbytes, ← hplane]
  exact State.coefBlock_writeCoef_of_range hd.1 hy hx hk hl (s.length_embedded _ _)
    (hplane ▸ s.markedBlock_range y x hk hl) s .zero

/-- PIX1 after EMBED: the inverse of every block of COEF0. -/
theorem State.afterEmbed_pixelBlock :
    s.afterEmbed.pixelBlock .one (s.width .zero) y x k l = idctBlock (s.markedBlock y x) k l := by
  have hplane : planeBlock (idctPlane (s.embedded (s.width .zero) (s.height .zero)).1 (s.width .zero)
      (s.height .zero)) (s.width .zero) y x k l = idctBlock (s.markedBlock y x) k l := by
    rw [idctPlane, planeBlock_mapBlocks _ _ hd.1 hy hx hk hl]
    exact idctBlock_congr (fun k hk l hl => State.planeBlock_embedded hd hy hx hk hl) k l
  rw [← hplane, ← State.pixelBlock_writePix hd.1 hy hx hk hl (by simp) (hplane ▸ idctBlock_range _ _ _)
    (s.writeCoef .zero (s.embedded (s.width .zero) (s.height .zero)).1) .one]
  simp [State.pixelBlock, State.afterEmbed]

end

end Sys2Proof.Machine

namespace Sys2Proof.Proofs

open Sys2Proof.Machine

/-- Settles O31: the two cases of Perturb, by its definition. -/
theorem perturbSaturates : Obligations.PerturbSaturates := by
  unfold Obligations.PerturbSaturates
  intro c alpha
  refine ⟨perturb_zero c alpha, perturb_one c alpha, ?_, ?_, fun hlo hhi => ?_⟩
  · rw [perturb_zero, perturb_one, sub_eq_add_neg]
  · rw [perturb_one, perturb_zero, sub_neg_eq_add]
  · rw [perturb_one, sat64_of_mem hlo (by omega)]

/-- Settles O32: the blocks are those of `planeBlock_embedScan`, the frame is from the table of writes (R45). -/
theorem embedWritesWatermark : Obligations.EmbedWritesWatermark := by
  unfold Obligations.EmbedWritesWatermark
  refine ⟨roundTrip .embed rfl, fun s => exec_embed_of_not_dimsOK, fun s hd ⟨q, hq, hzero, hone⟩ => ?_,
    fun s hd hm => ?_⟩
  · exact exec_embed_of_not_messageOK hd fun hm => (State.messageOK_iff.1 hm q hq).elim hzero hone
  · have hrun := exec_embed_of_messageOK hd (State.messageOK_iff.2 hm)
    refine ⟨_, hrun, fun y hy x hx k hk l hl => ?_, fun y hy x hx i hi j hj => ?_, s.afterEmbed_w1, s.afterEmbed_h1,
      s.afterEmbed_bitCnt, s.afterEmbed_err, exec_det hrun (by simp) (by simp), exec_unchanged hrun⟩
    · rw [State.afterEmbed_coefBlock hd hy hx hk hl, ite_and]
      rfl
    · rw [State.afterEmbed_pixelBlock hd hy hx hi hj]
      exact idctBlock_congr (fun k hk l hl => (State.afterEmbed_coefBlock hd hy hx hk hl).symm) i j

/-- Settles O34: past the message PIX1 is the round trip of R127. -/
theorem unperturbedBlocksLoseAtMostOne : Obligations.UnperturbedBlocksLoseAtMostOne := by
  unfold Obligations.UnperturbedBlocksLoseAtMostOne
  refine fun s hd hm => ⟨_, exec_embed_of_messageOK hd (State.messageOK_iff.2 hm), fun y hy x hx hend i hi j hj => ?_⟩
  have hpixel := s.isPixelBlock_pixelBlock .zero (s.width .zero) y x
  obtain ⟨hlower, hzero⟩ := roundTripWithinOne _ hpixel i hi j hj
  rw [State.afterEmbed_pixelBlock hd hy hx hi hj, State.markedBlock_of_le hend]
  obtain hpos | hle := lt_or_ge 0 (s.pixelBlock .zero (s.width .zero) y x i j)
  · exact (hlower hpos).symm.imp_right fun h => by rw [h, sub_add_cancel]
  · have hp := le_antisymm hle (hpixel i hi j hj).1
    exact .inl ((hzero hp).trans hp.symm)

end Sys2Proof.Proofs

/-! PROOF. The two worked cases of embedding then extracting: the document's gray block, which gives its bit back, and
the black block of R157, which loses it. Both embed in a constant 8x8 plane, where Select falls to the last corner
(R141), so COEF0 is a `cornerBlock`: both cases turn on its inverse. Settles O50 and O51. -/

namespace Sys2Proof.Machine

/-! ### A constant block with its last coefficient perturbed -/

/-- The block with `c` at (0, 0), `v` at (7, 7) and 0 elsewhere. -/
def cornerBlock (c v : Int) (k l : Nat) : Int := if (k, l) = (7, 7) then v else dcBlock c k l

theorem select_of_eq_dcBlock {F : Nat → Nat → Int} {c : Int} (hF : ∀ k < 8, ∀ l < 8, F k l = dcBlock c k l) :
    select F = (7, 7) :=
  select_of_ac_zero fun k hk l hl hac => (hF k hk l hl).trans (dcBlock_of_ne hac c)

theorem perturbBlock_of_eq_dcBlock {F : Nat → Nat → Int} {c : Int} (hF : ∀ k < 8, ∀ l < 8, F k l = dcBlock c k l)
    (alpha : Int) (m : Byte) {k l : Nat} (hk : k < 8) (hl : l < 8) :
    perturbBlock alpha m F k l = cornerBlock c (perturb 0 m alpha) k l := by
  rw [perturbBlock, select_of_eq_dcBlock hF, cornerBlock, hF k hk l hl]
  split
  · next hcorner => rw [dcBlock_of_ne (by simp [hcorner])]
  · rfl

theorem idctSum_cornerBlock (c v : Int) (i j : Nat) :
    idctSum (cornerBlock c v) i j = c * 2 ^ 90 + v * 2 ^ 31 * (basis 7 i * basis 7 j) := by
  simp [idctSum, sum8, cornerBlock, dcBlock, weight_of_ne_zero]
  ring

theorem abs_cornerTerm_lt {v : Int} (hv : |v| ≤ 2 ^ 31) {i j : Nat} (hi : i < 8) (hj : j < 8) :
    |v * 2 ^ 31 * (basis 7 i * basis 7 j)| < 2 ^ 125 := by
  have hbasis := abs_mul_le_mul (abs_basis_le 7 (by decide) i hi) (abs_basis_le 7 (by decide) j hj)
  have hscaled : |v * 2 ^ 31| ≤ 2 ^ 31 * 2 ^ 31 := abs_mul_le_mul hv (by norm_num)
  exact (abs_mul_le_mul hscaled hbasis).trans_lt (by norm_num)

/-- A perturbation of at most one half moves a pixel of a constant block by less than 1, so truncation takes off 1 where
it is negative, and that is all. -/
theorem idctBlock_cornerBlock (d : Int) {v : Int} (hv : |v| ≤ 2 ^ 31) {i j : Nat} (hi : i < 8) (hj : j < 8) :
    idctBlock (cornerBlock (d * 2 ^ 35) v) i j =
      clamp8 (if v * 2 ^ 31 * (basis 7 i * basis 7 j) < 0 then d - 1 else d) := by
  have hlt := abs_lt.mp (abs_cornerTerm_lt hv hi hj)
  rw [idctBlock_eq_floor, idctSum_cornerBlock]
  generalize v * 2 ^ 31 * (basis 7 i * basis 7 j) = e at hlt ⊢
  congr 1
  split <;> omega

/-! ### A plane of one constant block -/

/-- Bank 0 holds one 8x8 block of the byte `p`, MSGLEN is 1 and ALPHA is 0.5. -/
structure State.OneBlock (s : State) (p : Byte) : Prop where
  maxPix : 64 ≤ s.params.maxPix
  w0 : s.w0 = 8
  h0 : s.h0 = 8
  pix0 : ∀ n < 64, s.byteAt .pix0 n = p
  msgLen : s.msgLen = 1
  alphaHi : s.alphaHi = 0
  alphaLo : s.alphaLo = 0x80000000
  bit : s.byteAt .msgIn 0 = 0x00 ∨ s.byteAt .msgIn 0 = 0x01

theorem blkIdx_eight (r c : Nat) : blkIdx 8 0 0 r c = 8 * r + c := by
  unfold blkIdx; omega

/-- The one block of an 8x8 plane is the plane. -/
theorem State.pixelBlock_eight (s : State) (b : Bank) (i j : Nat) :
    s.pixelBlock b 8 0 0 i j = (s.byteAt (pixId b) (8 * i + j)).toNat := by
  rw [State.pixelBlock, blkIdx_eight]

namespace State.OneBlock

variable {s : State} {p : Byte} (hs : s.OneBlock p)

include hs

theorem width : s.width .zero = 8 := by simp [State.width, State.widthReg, hs.w0]

theorem height : s.height .zero = 8 := by simp [State.height, State.heightReg, hs.h0]

theorem dimsOK : dimsOK s.params (s.width .zero) (s.height .zero) := by
  rw [hs.width, hs.height]
  exact ⟨rfl, rfl, hs.maxPix⟩

theorem alpha : s.alpha = 2 ^ 31 := by
  rw [State.alpha, hs.alphaHi, hs.alphaLo]
  rfl

theorem exec_embed : exec .embed s = .next s.afterEmbed := by
  refine exec_embed_of_messageOK hs.dimsOK (State.messageOK_iff.2 fun q hq => ?_)
  rw [hs.msgLen] at hq
  obtain rfl : q = 0 := Nat.lt_one_iff.1 (lt_of_lt_of_le hq (min_le_left _ _))
  exact hs.bit

theorem bitCnt : s.afterEmbed.bitCnt = 1 := by
  refine BitVec.eq_of_toNat_eq ?_
  rw [State.afterEmbed_bitCnt, hs.msgLen, hs.width, hs.height]
  rfl

theorem pixelBlock {i j : Nat} (hi : i < 8) (hj : j < 8) : s.pixelBlock .zero 8 0 0 i j = p.toNat := by
  rw [State.pixelBlock_eight, pixId, hs.pix0 _ (by omega)]

theorem fdctBlock_pixelBlock : ∀ k < 8, ∀ l < 8,
    fdctBlock (s.pixelBlock .zero 8 0 0) k l = dcBlock (p.toNat * 2 ^ 35) k l :=
  fdctBlock_eq_dcBlock fun _ hi _ hj => hs.pixelBlock hi hj

theorem markedBlock {k l : Nat} (hk : k < 8) (hl : l < 8) : s.markedBlock 0 0 k l =
    cornerBlock (p.toNat * 2 ^ 35) (perturb 0 (s.byteAt .msgIn 0) (2 ^ 31)) k l := by
  rw [State.markedBlock, hs.width, hs.msgLen, if_pos (by decide), hs.alpha]
  exact perturbBlock_of_eq_dcBlock hs.fdctBlock_pixelBlock _ _ hk hl

theorem coefBlock {k l : Nat} (hk : k < 8) (hl : l < 8) : s.afterEmbed.coefBlock .zero 8 0 0 k l =
    cornerBlock (p.toNat * 2 ^ 35) (perturb 0 (s.byteAt .msgIn 0) (2 ^ 31)) k l := by
  have hblock := State.afterEmbed_coefBlock hs.dimsOK (y := 0) (x := 0) (by simp [hs.height])
    (by simp [hs.width]) hk hl
  rwa [hs.width, hs.markedBlock hk hl] at hblock

theorem abs_perturb_le : |perturb 0 (s.byteAt .msgIn 0) (2 ^ 31)| ≤ 2 ^ 31 := by
  obtain h | h := hs.bit <;> rw [h] <;> decide

theorem pixelBlock_afterEmbed {i j : Nat} (hi : i < 8) (hj : j < 8) : s.afterEmbed.pixelBlock .one 8 0 0 i j =
    clamp8 (if perturb 0 (s.byteAt .msgIn 0) (2 ^ 31) * 2 ^ 31 * (basis 7 i * basis 7 j) < 0 then p.toNat - 1
      else p.toNat) := by
  have hblock := State.afterEmbed_pixelBlock hs.dimsOK (y := 0) (x := 0) (by simp [hs.height])
    (by simp [hs.width]) hi hj
  rw [hs.width, idctBlock_congr fun k hk l hl => hs.markedBlock hk hl] at hblock
  rw [hblock, idctBlock_cornerBlock _ hs.abs_perturb_le hi hj]

end State.OneBlock

/-! ### XDIFF (R165) -/

/-- The bits XDIFF decodes from the two banks. -/
def State.diffBits (s : State) : List Byte :=
  diffScan (s.width .zero) s.diffLimit (s.transformOf .zero (s.width .zero) (s.height .zero))
    (s.transformOf .one (s.width .zero) (s.height .zero)) (rasterBlocks (s.width .zero) (s.height .zero)) 0

/-- The state after XDIFF when nothing is at fault. -/
def State.afterXdiff (s : State) : State :=
  ((((s.writeCoef .zero (s.transformOf .zero (s.width .zero) (s.height .zero))).writeCoef .one
    (s.transformOf .one (s.width .zero) (s.height .zero))).storeBytes .msgOut 0 s.diffBits).setBitCnt
    s.diffBits.length).setErr (if s.diffBits.length = 0 ∧ 0 < s.diffLimit then .ident else .ok)

/-- What two blocks of coefficients decode to, at the position selected in the first (R165). -/
def decodedBit (F G : Nat → Nat → Int) : Option Byte :=
  if G (select F).1 (select F).2 < F (select F).1 (select F).2 then some 0x01
  else if F (select F).1 (select F).2 < G (select F).1 (select F).2 then some 0x00 else none

theorem decodedBit_self (F : Nat → Nat → Int) : decodedBit F F = none := by simp [decodedBit]

theorem decodedBit_congr {F F' G G' : Nat → Nat → Int} (hF : ∀ k < 8, ∀ l < 8, F k l = F' k l)
    (hG : ∀ k < 8, ∀ l < 8, G k l = G' k l) : decodedBit F G = decodedBit F' G' := by
  have hsel : select F = select F' := select_congr fun k hk l hl _ => by rw [hF k hk l hl]
  obtain ⟨hk, hl⟩ := select_lt F'
  rw [decodedBit, decodedBit, hsel, hF _ hk _ hl, hG _ hk _ hl]

theorem diffBit_eq (w : Nat) (c0 c1 : List Int) (blk : Nat × Nat) :
    diffBit w c0 c1 blk = decodedBit (planeBlock c0 w blk.1 blk.2) (planeBlock c1 w blk.1 blk.2) := rfl

/-- R167: equal planes decode nothing. -/
theorem diffScan_self (w limit : Nat) (c : List Int) (blks : List (Nat × Nat)) (cnt : Nat) :
    diffScan w limit c c blks cnt = [] := by
  induction blks with
  | nil => rfl
  | cons blk rest ih => simp [diffScan, diffBit_eq, decodedBit_self, ih]

theorem diffScan_singleton (w : Nat) {limit : Nat} (hlimit : 0 < limit) (c0 c1 : List Int) (blk : Nat × Nat) :
    diffScan w limit c0 c1 [blk] 0 = (diffBit w c0 c1 blk).toList := by
  rw [diffScan, if_neg hlimit.ne]
  cases diffBit w c0 c1 blk <;> rfl

section
variable {s : State}

theorem exec_xdiff_of_dimsOK (hw : s.w0 = s.w1) (hh : s.h0 = s.h1)
    (hd : dimsOK s.params (s.width .zero) (s.height .zero)) : exec .xdiff s = .next s.afterXdiff :=
  (if_neg (by simp [hw, hh])).trans (if_pos hd)

@[simp] theorem State.afterXdiff_err (s : State) : s.afterXdiff.err =
    if s.diffBits.length = 0 ∧ 0 < s.diffLimit then .ident else .ok := by simp [State.afterXdiff]

@[simp] theorem State.afterXdiff_bitCnt (s : State) : s.afterXdiff.bitCnt = BitVec.ofNat 32 s.diffBits.length := by
  simp [State.afterXdiff]

theorem State.afterXdiff_byteAt_msgOut (s : State) {n : Nat} (hn : n < s.diffBits.length) :
    s.afterXdiff.byteAt .msgOut n = s.diffBits.getD n 0 := by
  simp [State.afterXdiff, State.byteAt_storeBytes, hn]

theorem State.diffBits_of_transformOf_eq (h : s.transformOf .zero (s.width .zero) (s.height .zero) =
    s.transformOf .one (s.width .zero) (s.height .zero)) : s.diffBits = [] := by
  rw [State.diffBits, h, diffScan_self]

/-- COEFb after XDIFF: the transform of the block of PIXb, in both banks. -/
theorem State.afterXdiff_coefBlock (hd : dimsOK s.params (s.width .zero) (s.height .zero)) (b : Bank) {y x k l : Nat}
    (hy : y < s.height .zero / 8) (hx : x < s.width .zero / 8) (hk : k < 8) (hl : l < 8) :
    s.afterXdiff.coefBlock b (s.width .zero) y x k l = fdctBlock (s.pixelBlock b (s.width .zero) y x) k l := by
  have hblock := s.planeBlock_transformOf hd.1 hy hx hk hl b
  have hlt := abs_fdctBlock_lt (s.isPixelBlock_pixelBlock b (s.width .zero) y x) hk hl
  obtain ⟨u, hu⟩ : ∃ u : State, s.afterXdiff.coefBlock b =
      (u.writeCoef b (s.transformOf b (s.width .zero) (s.height .zero))).coefBlock b := by
    cases b with
    | zero => exact ⟨s, State.coefBlock_congr fun n => by
        simp [State.afterXdiff, State.byteAt_storeBytes, State.byteAt_writeCoef_outside, coefId]⟩
    | one => exact ⟨s.writeCoef .zero (s.transformOf .zero (s.width .zero) (s.height .zero)),
        State.coefBlock_congr fun n => by simp [State.afterXdiff, State.byteAt_storeBytes, coefId]⟩
  rw [hu, State.coefBlock_writeCoef hd.1 hy hx hk hl (by simp) (hblock ▸ hlt.trans (by norm_num)), hblock]

theorem State.transformOf_zero_eq_one
    (hpix : ∀ n < s.width .zero * s.height .zero, s.byteAt .pix0 n = s.byteAt .pix1 n) :
    s.transformOf .zero (s.width .zero) (s.height .zero) = s.transformOf .one (s.width .zero) (s.height .zero) := by
  have hplane : s.pixPlane .zero (s.width .zero * s.height .zero) = s.pixPlane .one (s.width .zero * s.height .zero) :=
    List.map_congr_left fun n hn => by rw [pixId, pixId, hpix n (List.mem_range.1 hn)]
  rw [State.transformOf, State.transformOf, hplane]

/-- Banks of one block each decode at most one bit. -/
theorem State.diffBits_of_one_block (hw : s.width .zero = 8) (hh : s.height .zero = 8) (hlimit : 0 < s.diffLimit) :
    s.diffBits =
      (decodedBit (fdctBlock (s.pixelBlock .zero 8 0 0)) (fdctBlock (s.pixelBlock .one 8 0 0))).toList := by
  have hblock (b : Bank) : ∀ k < 8, ∀ l < 8,
      planeBlock (s.transformOf b 8 8) 8 0 0 k l = fdctBlock (s.pixelBlock b 8 0 0) k l := fun k hk l hl =>
    s.planeBlock_transformOf rfl (by decide) (by decide) hk hl b
  rw [State.diffBits, hw, hh, show rasterBlocks 8 8 = [(0, 0)] from rfl, diffScan_singleton _ hlimit, diffBit_eq,
    decodedBit_congr (hblock .zero) (hblock .one)]

end

/-! ### XDIFF after EMBED -/

theorem State.pixelBlock_zero_afterEmbed (s : State) : s.afterEmbed.pixelBlock .zero = s.pixelBlock .zero := by
  funext w y x i j
  simp [State.pixelBlock, pixId]

namespace State.OneBlock

variable {s : State} {p : Byte} (hs : s.OneBlock p)

include hs

theorem width_afterEmbed : s.afterEmbed.width .zero = 8 := by
  simp [State.width, State.widthReg, hs.w0]

theorem height_afterEmbed : s.afterEmbed.height .zero = 8 := by
  simp [State.height, State.heightReg, hs.h0]

theorem diffLimit_pos : 0 < s.afterEmbed.diffLimit := by
  rw [State.diffLimit, State.afterEmbed_msgLen, hs.msgLen]
  split <;> decide

theorem dimsOK_afterEmbed :
    Machine.dimsOK s.afterEmbed.params (s.afterEmbed.width .zero) (s.afterEmbed.height .zero) := by
  rw [hs.width_afterEmbed, hs.height_afterEmbed, State.afterEmbed_params]
  exact ⟨rfl, rfl, hs.maxPix⟩

theorem exec_xdiff : exec .xdiff s.afterEmbed = .next s.afterEmbed.afterXdiff :=
  exec_xdiff_of_dimsOK (by simp) (by simp) hs.dimsOK_afterEmbed

theorem coefAt_afterXdiff (b : Bank) : s.afterEmbed.afterXdiff.coefAt b 63 =
    fdctBlock (s.afterEmbed.pixelBlock b 8 0 0) 7 7 := by
  have hblock := State.afterXdiff_coefBlock hs.dimsOK_afterEmbed b (y := 0) (x := 0) (k := 7) (l := 7)
    (by simp [hs.height_afterEmbed]) (by simp [hs.width_afterEmbed]) (by decide) (by decide)
  rwa [hs.width_afterEmbed] at hblock

end State.OneBlock

/-! ### The gray block (R150, R165) -/

/-- The watermarked gray block: 127 where the row and the column are both even or both odd, else 128. -/
def checkerboard (i j : Nat) : Int := if (i + j) % 2 = 0 then 127 else 128

/-- The last row of the basis table alternates in sign, so bit 1 lowers every other pixel. -/
theorem corner_neg_iff : ∀ i < 8, ∀ j < 8,
    perturb 0 0x01 (2 ^ 31) * 2 ^ 31 * (basis 7 i * basis 7 j) < 0 ↔ (i + j) % 2 = 0 := by decide

theorem fdctBlock_checkerboard : fdctBlock checkerboard 7 7 = -14105822769 := by decide +kernel

theorem State.OneBlock.pixelBlock_gray {s : State} (hs : s.OneBlock 128) (hbit : s.byteAt .msgIn 0 = 0x01) :
    ∀ i < 8, ∀ j < 8, s.afterEmbed.pixelBlock .one 8 0 0 i j = checkerboard i j := by
  intro i hi j hj
  rw [hs.pixelBlock_afterEmbed hi hj, hbit, checkerboard]
  simp only [corner_neg_iff i hi j hj]
  split <;> rfl

/-! ### The black block (R157) -/

theorem State.OneBlock.pixelBlock_black {s : State} (hs : s.OneBlock 0) :
    ∀ i < 8, ∀ j < 8, s.afterEmbed.pixelBlock .one 8 0 0 i j = 0 := by
  intro i hi j hj
  rw [hs.pixelBlock_afterEmbed hi hj]
  split <;> rfl

theorem State.OneBlock.byteAt_black {s : State} (hs : s.OneBlock 0) {n : Nat} (hn : n < 64) :
    s.afterEmbed.byteAt .pix1 n = 0 := by
  have hpixel := hs.pixelBlock_black (n / 8) (by omega) (n % 8) (by omega)
  rw [State.pixelBlock_eight, Nat.div_add_mod] at hpixel
  exact BitVec.eq_of_toNat_eq (Int.ofNat_inj.1 hpixel)

end Sys2Proof.Machine

namespace Sys2Proof.Proofs

open Sys2Proof.Machine

/-- Settles O50: EMBED lowers the pixels of `checkerboard`, whose (7, 7) coefficient is below the source's 0: bit 1. -/
theorem grayBlockScenario : Obligations.GrayBlockScenario := by
  unfold Obligations.GrayBlockScenario
  intro s hmax hw0 hh0 hpix hlen hbit hhi hlo _
  have hs : s.OneBlock 128 := ⟨hmax, hw0, hh0, hpix, hlen, hhi, hlo, .inr hbit⟩
  have hsource : ∀ k < 8, ∀ l < 8, fdctBlock (s.afterEmbed.pixelBlock .zero 8 0 0) k l =
      dcBlock ((128 : Byte).toNat * 2 ^ 35) k l := by
    rw [State.pixelBlock_zero_afterEmbed]
    exact hs.fdctBlock_pixelBlock
  have hcorner : fdctBlock (s.afterEmbed.pixelBlock .zero 8 0 0) 7 7 = 0 := hsource 7 (by decide) 7 (by decide)
  have htarget : fdctBlock (s.afterEmbed.pixelBlock .one 8 0 0) 7 7 = -14105822769 :=
    (fdctBlock_congr (hs.pixelBlock_gray hbit) 7 7).trans fdctBlock_checkerboard
  have hbits : s.afterEmbed.diffBits = [0x01] := by
    rw [State.diffBits_of_one_block hs.width_afterEmbed hs.height_afterEmbed hs.diffLimit_pos, decodedBit,
      select_of_eq_dcBlock hsource, hcorner, htarget]
    rfl
  refine ⟨_, _, hs.exec_embed, s.afterEmbed_err, hs.bitCnt, s.afterEmbed_w1.trans hw0, s.afterEmbed_h1.trans hh0, ?_,
    fun y hy x hx => ?_, hs.exec_xdiff, ?_, ?_, ?_, ?_, ?_⟩
  · calc s.afterEmbed.coefAt .zero 63 = s.afterEmbed.coefBlock .zero 8 0 0 7 7 := by rw [State.coefBlock, blkIdx_eight]
      _ = perturb 0 0x01 (2 ^ 31) := by rw [hs.coefBlock (by decide) (by decide), hbit, cornerBlock, if_pos rfl]
      _ = -2 ^ 31 := by decide
  · have hpixel := hs.pixelBlock_gray hbit y hy x hx
    rw [State.pixelBlock_eight, checkerboard, Nat.add_comm y x] at hpixel
    refine BitVec.eq_of_toNat_eq (Int.ofNat_inj.1 (hpixel.trans ?_))
    split <;> rfl
  · simp [hbits]
  · simp [hbits]
  · rw [State.afterXdiff_byteAt_msgOut _ (by simp [hbits]), hbits]
    rfl
  · rw [hs.coefAt_afterXdiff, hcorner]
  · rw [hs.coefAt_afterXdiff, htarget]

/-- Settles O51: truncation and saturation keep every pixel at 0, so the two banks are equal and decode nothing. -/
theorem blackBlockLosesTheBit : Obligations.BlackBlockLosesTheBit := by
  unfold Obligations.BlackBlockLosesTheBit
  intro s hmax hw0 hh0 hpix hlen hbit hhi hlo
  have hs : s.OneBlock 0 := ⟨hmax, hw0, hh0, hpix, hlen, hhi, hlo, hbit⟩
  have hbits : s.afterEmbed.diffBits = [] := by
    refine State.diffBits_of_transformOf_eq (State.transformOf_zero_eq_one fun n hn => ?_)
    rw [hs.width_afterEmbed, hs.height_afterEmbed] at hn
    rw [State.afterEmbed_byteAt_pix0, hpix n hn, hs.byteAt_black hn]
  refine ⟨_, _, hs.exec_embed, s.afterEmbed_err, hs.bitCnt, fun n hn => hs.byteAt_black hn, hs.exec_xdiff, ?_, ?_⟩
  · simp [hbits, hs.diffLimit_pos]
  · simp [hbits]

end Sys2Proof.Proofs

/-! PROOF. The Extractor: the scans of R165 and R170 are the bits of the blocks in raster order, cut at the limit, and
the blocks of the planes they compare are the transforms of the pixel blocks. Settles O35, O36, O38 and O39. -/

namespace Sys2Proof.Machine

/-! ### The scans -/

/-- XDIFF's scan is the bits of its blocks in order, as many as are still wanted. -/
theorem diffScan_eq_take (w : Nat) (c0 c1 : List Int) {limit cnt : Nat} (hcnt : cnt ≤ limit)
    (blks : List (Nat × Nat)) :
    diffScan w limit c0 c1 blks cnt = (blks.filterMap (diffBit w c0 c1)).take (limit - cnt) := by
  induction blks generalizing cnt with
  | nil => simp [diffScan]
  | cons blk rest ih =>
    rw [diffScan]
    split
    · next hend => simp [hend]
    · next hmore =>
      obtain ⟨n, hn⟩ : ∃ n, limit - cnt = n + 1 := ⟨limit - cnt - 1, by omega⟩
      rw [List.filterMap_cons]
      cases diffBit w c0 c1 blk with
      | some m =>
        simp only [hn, List.take_succ_cons, ih (show cnt + 1 ≤ limit by omega), show limit - (cnt + 1) = n by omega]
      | none => exact ih hcnt

/-- XSELF's scan is the signs of its blocks in order, as many as are still wanted. -/
theorem selfScan_eq_take (w : Nat) (c : List Int) {n cnt : Nat} (hcnt : cnt ≤ n) (blks : List (Nat × Nat)) :
    selfScan w n c blks cnt = (blks.map (selfBit w c)).take (n - cnt) := by
  induction blks generalizing cnt with
  | nil => simp [selfScan]
  | cons blk rest ih =>
    rw [selfScan]
    split
    · next hend => simp [hend]
    · next hmore =>
      obtain ⟨m, hm⟩ : ∃ m, n - cnt = m + 1 := ⟨n - cnt - 1, by omega⟩
      rw [List.map_cons, hm, List.take_succ_cons, ih (by omega), show n - (cnt + 1) = m by omega]

/-! ### XDIFF (R165) -/

section
variable {s t : State}

theorem exec_xdiff_of_ne (hne : s.w0 ≠ s.w1 ∨ s.h0 ≠ s.h1) : exec .xdiff s = .next (s.setErr .dimMis) :=
  if_pos hne

theorem exec_xdiff_of_not_dimsOK (hw : s.w0 = s.w1) (hh : s.h0 = s.h1)
    (hd : ¬ dimsOK s.params (s.width .zero) (s.height .zero)) : exec .xdiff s = .next (s.setErr .dimInv) :=
  (if_neg (by simp [hw, hh])).trans (if_neg hd)

theorem State.diffLimit_pos_iff : 0 < s.diffLimit ↔ s.forced = true ∨ 0 < s.msgLen.toNat := by
  unfold State.diffLimit
  split
  · next hf => exact iff_of_true (by decide) (.inl hf)
  · next hf => simp [hf]

theorem State.diffBits_eq_take (hd : dimsOK s.params (s.width .zero) (s.height .zero)) : s.diffBits =
    ((rasterBlocks (s.width .zero) (s.height .zero)).filterMap fun q =>
      decodedBit (fdctBlock (s.pixelBlock .zero (s.width .zero) q.1 q.2))
        (fdctBlock (s.pixelBlock .one (s.width .zero) q.1 q.2))).take s.diffLimit := by
  rw [State.diffBits, diffScan_eq_take _ _ _ (Nat.zero_le _), Nat.sub_zero, List.filterMap_congr fun q hq => ?_]
  obtain ⟨hy, hx⟩ := mem_rasterBlocks hq
  exact decodedBit_congr (fun k hk l hl => s.planeBlock_transformOf hd.1 hy hx hk hl .zero)
    fun k hk l hl => s.planeBlock_transformOf hd.1 hy hx hk hl .one

/-- BITCNT can hold the number of decoded bits, since no limit is above 2^32 - 1. -/
theorem State.afterXdiff_bitCnt_toNat (s : State) : s.afterXdiff.bitCnt.toNat = s.diffBits.length := by
  rw [State.afterXdiff_bitCnt, BitVec.toNat_ofNat]
  exact Nat.mod_eq_of_lt (s.length_diffScan_lt _ _ _ _)

/-- In forced mode (R166) the limit, and so the decoded bits, do not depend on MSGLEN. -/
theorem State.afterXdiff_withMsgLen (hf : s.forced = true) (n : Word) :
    ({ s with msgLen := n } : State).afterXdiff = { s.afterXdiff with msgLen := n } := by
  have hlimit : ({ s with msgLen := n } : State).diffLimit = s.diffLimit := by simp [State.diffLimit, hf]
  have hbits : ({ s with msgLen := n } : State).diffBits = s.diffBits := by
    rw [State.diffBits, hlimit]
    rfl
  rw [State.afterXdiff, hlimit, hbits]
  rfl

theorem exec_xdiff_withMsgLen (hf : s.forced = true) (h : exec .xdiff s = .next t) (n : Word) :
    exec .xdiff { s with msgLen := n } = .next { t with msgLen := n } := by
  by_cases hne : s.w0 ≠ s.w1 ∨ s.h0 ≠ s.h1
  · obtain rfl : t = _ := Host.Outcome.next.inj (h.symm.trans (exec_xdiff_of_ne hne))
    exact exec_xdiff_of_ne (s := { s with msgLen := n }) hne
  · obtain ⟨hw, hh⟩ := not_or.1 hne
    rw [not_not] at hw hh
    by_cases hd : dimsOK s.params (s.width .zero) (s.height .zero)
    · obtain rfl : t = _ := Host.Outcome.next.inj (h.symm.trans (exec_xdiff_of_dimsOK hw hh hd))
      rw [← State.afterXdiff_withMsgLen hf n]
      exact exec_xdiff_of_dimsOK (s := { s with msgLen := n }) hw hh hd
    · obtain rfl : t = _ := Host.Outcome.next.inj (h.symm.trans (exec_xdiff_of_not_dimsOK hw hh hd))
      exact exec_xdiff_of_not_dimsOK (s := { s with msgLen := n }) hw hh hd

/-- R166: the forced limit is above the number of blocks that fit a pixel memory. -/
theorem State.capacity_le_diffLimit (hf : s.forced = true) (hp : s.params.wellFormed = true) {w h : Nat}
    (hd : dimsOK s.params w h) : capacity w h ≤ s.diffLimit := by
  have hcap := capacity_le_maxMsg hd
  simp only [Config.Params.wellFormed, Bool.and_eq_true, decide_eq_true_eq] at hp
  rw [Config.Params.maxMsg] at hcap
  rw [State.diffLimit, if_pos hf, Config.forcedCap]
  omega

end

/-! ### XSELF (R170) -/

/-- The bits XSELF decodes from a bank. -/
def State.selfBits (s : State) (b : Bank) : List Byte :=
  selfScan (s.width b) s.msgLen.toNat (s.transformOf b (s.width b) (s.height b))
    (rasterBlocks (s.width b) (s.height b)) 0

/-- The state after XSELF when nothing is at fault. -/
def State.afterXself (s : State) (b : Bank) : State :=
  (((s.writeCoef b (s.transformOf b (s.width b) (s.height b))).storeBytes .msgOut 0 (s.selfBits b)).setBitCnt
    (s.selfBits b).length).setErr .ok

section
variable {s : State} {b : Bank}

theorem exec_xself_of_dimsOK (hd : dimsOK s.params (s.width b) (s.height b)) :
    exec (.xself b) s = .next (s.afterXself b) := if_pos hd

theorem exec_xself_of_not_dimsOK (hd : ¬ dimsOK s.params (s.width b) (s.height b)) :
    exec (.xself b) s = .next (s.setErr .dimInv) := if_neg hd

theorem State.selfBits_eq_take (s : State) (b : Bank) : s.selfBits b =
    ((rasterBlocks (s.width b) (s.height b)).map
      (selfBit (s.width b) (s.transformOf b (s.width b) (s.height b)))).take s.msgLen.toNat := by
  rw [State.selfBits, selfScan_eq_take _ _ (Nat.zero_le _), Nat.sub_zero]

@[simp] theorem State.length_selfBits (s : State) (b : Bank) :
    (s.selfBits b).length = min s.msgLen.toNat (capacity (s.width b) (s.height b)) := by
  rw [State.selfBits_eq_take, List.length_take, List.length_map, length_rasterBlocks]

theorem State.selfBits_getElem? (hd : dimsOK s.params (s.width b) (s.height b)) {y x : Nat} (hy : y < s.height b / 8)
    (hx : x < s.width b / 8) (hlen : y * (s.width b / 8) + x < s.msgLen.toNat) :
    (s.selfBits b)[y * (s.width b / 8) + x]? =
      some (if fdctBlock (s.pixelBlock b (s.width b) y x) 0 1 < 0 then 0x01 else 0x00) := by
  rw [State.selfBits_eq_take, List.getElem?_take_of_lt hlen, List.getElem?_map, rasterBlocks_getElem? hy hx,
    Option.map_some, selfBit, Config.selfRow, Config.selfCol,
    s.planeBlock_transformOf hd.1 hy hx (by decide) (by decide) b]

/-- BITCNT can hold the number of decoded bits, since MSGLEN is a word. -/
theorem State.afterXself_bitCnt (s : State) (b : Bank) :
    (s.afterXself b).bitCnt.toNat = min s.msgLen.toNat (capacity (s.width b) (s.height b)) := by
  have hlt := s.msgLen.isLt
  simp only [State.afterXself, State.setErr_bitCnt, State.setBitCnt_bitCnt, State.length_selfBits, BitVec.toNat_ofNat]
  exact Nat.mod_eq_of_lt (by omega)

theorem State.afterXself_byteAt_msgOut (s : State) (b : Bank) {n : Nat} (hn : n < (s.selfBits b).length) :
    (s.afterXself b).byteAt .msgOut n = (s.selfBits b).getD n 0 := by
  rw [State.length_selfBits] at hn
  simp [State.afterXself, State.byteAt_storeBytes, lt_min_iff.1 hn]

/-- COEFb after XSELF: the transform of the block of PIXb. -/
theorem State.afterXself_coefBlock (hd : dimsOK s.params (s.width b) (s.height b)) {y x k l : Nat}
    (hy : y < s.height b / 8) (hx : x < s.width b / 8) (hk : k < 8) (hl : l < 8) :
    (s.afterXself b).coefBlock b (s.width b) y x k l = fdctBlock (s.pixelBlock b (s.width b) y x) k l := by
  have hblock := s.planeBlock_transformOf hd.1 hy hx hk hl b
  have hlt := abs_fdctBlock_lt (s.isPixelBlock_pixelBlock b (s.width b) y x) hk hl
  have hbytes (n : Nat) : (s.afterXself b).byteAt (coefId b) n =
      (s.writeCoef b (s.transformOf b (s.width b) (s.height b))).byteAt (coefId b) n := by
    have hne : coefId b ≠ .msgOut := by cases b <;> decide
    simp [State.afterXself, State.byteAt_storeBytes, hne]
  rw [State.coefBlock_congr hbytes,
    State.coefBlock_writeCoef hd.1 hy hx hk hl (by simp) (hblock ▸ hlt.trans (by norm_num)), hblock]

end

end Sys2Proof.Machine

namespace Sys2Proof.Proofs

open Sys2Proof.Machine

/-- Settles O35: the scan is `diffBits_eq_take` over the raster order as nested loops. -/
theorem xdiffDecodesRasterBits : Obligations.XdiffDecodesRasterBits := by
  delta Obligations.XdiffDecodesRasterBits
  refine ⟨roundTrip .xdiff rfl, fun s => exec_xdiff_of_ne, fun s => exec_xdiff_of_not_dimsOK, ?_⟩
  intro s hw hh hd bitOf blocks limit bits
  have hbits : bits = s.diffBits := by
    rw [State.diffBits_eq_take hd, rasterBlocks_eq_loops]
    rfl
  have hcount : s.afterXdiff.bitCnt.toNat = bits.length := hbits ▸ s.afterXdiff_bitCnt_toNat
  have hrun := exec_xdiff_of_dimsOK hw hh hd
  refine ⟨_, hrun, fun b y hy x hx k hk l hl => State.afterXdiff_coefBlock hd b hy hx hk hl, hcount, fun n hn => ?_, ?_,
    exec_det hrun (by simp) (by simp), ?_⟩
  · rw [hbits] at hn ⊢
    rw [State.afterXdiff_byteAt_msgOut s hn, List.getD_eq_getElem _ _ hn, List.getElem?_eq_getElem hn]
  · rw [State.afterXdiff_err, hbits]
    rfl
  · rw [← hcount]
    exact exec_unchanged hrun

/-- Settles O36: equal pixels have equal transforms, which decode nothing; the frame with BITCNT = 0 keeps MSGOUT. -/
theorem xdiffIdenticalImages : Obligations.XdiffIdenticalImages := by
  unfold Obligations.XdiffIdenticalImages
  intro s hw hh hd hpix hlimit
  have hrun := exec_xdiff_of_dimsOK hw hh hd
  have hbits : s.diffBits = [] := State.diffBits_of_transformOf_eq (State.transformOf_zero_eq_one hpix)
  have hcount : s.afterXdiff.bitCnt = 0 := by simp [hbits]
  refine ⟨_, hrun, by simp [hbits, State.diffLimit_pos_iff.2 hlimit], hcount, fun k => ?_⟩
  refine (exec_unchanged hrun).bytes .msgOut k ?_
  simp [writtenBytes, hbits]

/-- Settles O38: the forced limit is fixed, and above the number of blocks. -/
theorem forcedModeIgnoresLength : Obligations.ForcedModeIgnoresLength := by
  unfold Obligations.ForcedModeIgnoresLength
  refine fun s t n hf h => ⟨exec_xdiff_withMsgLen hf h n, fun hp hd w c0 c1 => ?_⟩
  rw [diffScan_eq_take _ _ _ (Nat.zero_le _), Nat.sub_zero]
  refine List.take_of_length_le ?_
  calc _ ≤ (rasterBlocks (s.width .zero) (s.height .zero)).length := List.length_filterMap_le ..
    _ = capacity (s.width .zero) (s.height .zero) := length_rasterBlocks ..
    _ ≤ s.diffLimit := State.capacity_le_diffLimit hf hp hd

/-- Settles O39: the signs are those of `selfBits_getElem?`, the frame is from the table of writes (R45). -/
theorem xselfDecodesSigns : Obligations.XselfDecodesSigns := by
  delta Obligations.XselfDecodesSigns
  refine ⟨roundTrip (.xself .zero) rfl, roundTrip (.xself .one) rfl, fun b s => exec_xself_of_not_dimsOK, ?_⟩
  intro b s hd cnt
  have hrun := exec_xself_of_dimsOK hd
  have hcount : (s.afterXself b).bitCnt.toNat = cnt := s.afterXself_bitCnt b
  refine ⟨_, hrun, fun y hy x hx k hk l hl => State.afterXself_coefBlock hd hy hx hk hl, fun y hy x hx hn => ?_, hcount,
    rfl, exec_det hrun (by simp) (by simp), ?_⟩
  · have hbit := State.selfBits_getElem? hd hy hx (lt_min_iff.1 hn).1
    rw [State.afterXself_byteAt_msgOut s b (hn.trans_eq (s.length_selfBits b).symm), List.getD, hbit, Option.getD_some]
  · rw [← hcount]
    exact exec_unchanged hrun

end Sys2Proof.Proofs

/-! PROOF. The Metadata Codec: what the header field holds, as four bytes and as one value, and what MPATCH, MDETECT
and MREAD make of it (44_metadata.md R185 to R190). Settles O15, O16, O17 and O18. -/

namespace Sys2Proof.Machine

/-! ### The header field (R185) -/

theorem leValue_eq_zero_iff (bs : List Byte) : leValue bs = 0 ↔ ∀ b ∈ bs, b = 0 := by
  induction bs with
  | nil => simp [leValue]
  | cons b bs ih =>
    rw [leValue, List.forall_mem_cons, ← ih]
    bv_omega

theorem State.headerBytes_eq (s : State) :
    s.headerBytes = [s.byteAt .file 6, s.byteAt .file 7, s.byteAt .file 8, s.byteAt .file 9] := rfl

theorem State.headerValue_eq (s : State) : s.headerValue = (s.byteAt .file 6).toNat +
    2 ^ 8 * (s.byteAt .file 7).toNat + 2 ^ 16 * (s.byteAt .file 8).toNat + 2 ^ 24 * (s.byteAt .file 9).toNat := by
  simp only [State.headerValue, State.headerBytes_eq, leValue]
  omega

theorem State.headerValue_lt (s : State) : s.headerValue < 2 ^ 32 := leValue_lt s.headerBytes

theorem State.headerValue_eq_zero_iff (s : State) : s.headerValue = 0 ↔
    s.byteAt .file 6 = 0 ∧ s.byteAt .file 7 = 0 ∧ s.byteAt .file 8 = 0 ∧ s.byteAt .file 9 = 0 := by
  rw [State.headerValue, leValue_eq_zero_iff, State.headerBytes_eq]
  simp

/-! ### The three commands (R187, R188, R189) -/

/-- The state after MPATCH with FileOK (R187). -/
def State.afterMpatch (s : State) : State := (s.storeBytes .file 6 (leBytes 4 s.hdrLen.toNat)).setErr .ok

/-- The state after MDETECT with FileOK (R188). -/
def State.afterMdetect (s : State) : State := (s.setDet (!(s.headerBytes.all fun b => b == 0))).setErr .ok

/-- The state after MREAD with FileOK (R189). -/
def State.afterMread (s : State) : State := (s.setHdrLen s.headerValue).setErr .ok

section
variable {s : State}

theorem exec_mpatch_of_fileOK (hf : s.fileOK) : exec .mpatch s = .next s.afterMpatch := if_pos hf

theorem exec_mpatch_of_not_fileOK (hf : ¬ s.fileOK) : exec .mpatch s = .next (s.setErr .fileRng) := if_neg hf

theorem exec_mdetect_of_fileOK (hf : s.fileOK) : exec .mdetect s = .next s.afterMdetect := if_pos hf

theorem exec_mdetect_of_not_fileOK (hf : ¬ s.fileOK) : exec .mdetect s = .next (s.setErr .fileRng) := if_neg hf

theorem exec_mread_of_fileOK (hf : s.fileOK) : exec .mread s = .next s.afterMread := if_pos hf

theorem exec_mread_of_not_fileOK (hf : ¬ s.fileOK) : exec .mread s = .next (s.setErr .fileRng) := if_neg hf

theorem State.afterMpatch_fileOK : s.afterMpatch.fileOK ↔ s.fileOK := by
  simp [State.fileOK, State.afterMpatch]

theorem State.afterMpatch_byteAt (s : State) {k : Nat} (hk : k < 4) :
    s.afterMpatch.byteAt .file (6 + k) = s.hdrLen.extractLsb' (8 * k) 8 := by
  have hin : 6 + k < 6 + (leBytes 4 s.hdrLen.toNat).length := by rwa [length_leBytes, Nat.add_lt_add_iff_left]
  rw [State.afterMpatch, State.setErr_byteAt, State.byteAt_storeBytes, if_pos ⟨rfl, Nat.le_add_right 6 k, hin⟩,
    Nat.add_sub_cancel_left, List.getD, leBytes_getElem?, if_pos hk, Option.getD_some, ← Nat.shiftRight_eq_div_pow]
  rfl

/-- MPATCH leaves its operand in the header field: little-endian bytes and back. -/
theorem State.afterMpatch_headerValue (s : State) : s.afterMpatch.headerValue = s.hdrLen.toNat := by
  have hbytes : s.afterMpatch.headerBytes = leBytes 4 s.hdrLen.toNat :=
    List.map_congr_left fun k hk => by
      rw [← Nat.shiftRight_eq_div_pow]
      exact s.afterMpatch_byteAt (List.mem_range.1 hk)
  rw [State.headerValue, hbytes, leValue_leBytes, Nat.mod_eq_of_lt s.hdrLen.isLt]

theorem State.afterMdetect_det (s : State) : s.afterMdetect.det = false ↔ s.headerValue = 0 := by
  rw [State.headerValue, leValue_eq_zero_iff]
  simp [State.afterMdetect]

theorem State.afterMread_hdrLen (s : State) : s.afterMread.hdrLen.toNat = s.headerValue :=
  (BitVec.toNat_ofNat ..).trans (Nat.mod_eq_of_lt s.headerValue_lt)

end

end Sys2Proof.Machine

namespace Sys2Proof.Proofs

open Sys2Proof.Machine

/-- Settles O15: byte k of the field is bits 8k to 8k + 7 of HDRLEN; the frame is from the table of writes (R45). -/
theorem mpatchWritesHeader : Obligations.MpatchWritesHeader := by
  unfold Obligations.MpatchWritesHeader
  refine ⟨roundTrip .mpatch rfl, fun s => ⟨fun hf => ?_, exec_mpatch_of_not_fileOK⟩⟩
  have hrun := exec_mpatch_of_fileOK hf
  have hbyte (k : Nat) (hk : k < 4) := s.afterMpatch_byteAt hk
  exact ⟨_, hrun, hbyte 0 (by decide), hbyte 1 (by decide), hbyte 2 (by decide), hbyte 3 (by decide), rfl,
    exec_det hrun (by simp) (by simp), exec_unchanged hrun⟩

/-- Settles O16: DET tells whether the field's value is 0, which it is when each of its bytes is. -/
theorem mdetectReportsHeader : Obligations.MdetectReportsHeader := by
  unfold Obligations.MdetectReportsHeader
  refine ⟨roundTrip .mdetect rfl, fun s => ⟨fun hf => ?_, exec_mdetect_of_not_fileOK⟩⟩
  have hrun := exec_mdetect_of_fileOK hf
  exact ⟨_, hrun, s.afterMdetect_det.trans s.headerValue_eq_zero_iff, rfl, exec_unchanged hrun⟩

/-- Settles O17: the field's value is below 2^32, so HDRLEN holds all of it. -/
theorem mreadReadsHeader : Obligations.MreadReadsHeader := by
  unfold Obligations.MreadReadsHeader
  refine ⟨roundTrip .mread rfl, fun s => ⟨fun hf => ?_, exec_mread_of_not_fileOK⟩⟩
  have hrun := exec_mread_of_fileOK hf
  exact ⟨_, hrun, s.afterMread_hdrLen.trans s.headerValue_eq, rfl, exec_det hrun (by simp) (by simp),
    exec_unchanged hrun⟩

/-- Settles O18: after MPATCH the field's value is the old HDRLEN; MREAD and MDETECT look at nothing but that value,
so a new HDRLEN in between does not matter. -/
theorem headerRoundTrip : Obligations.HeaderRoundTrip := by
  unfold Obligations.HeaderRoundTrip
  intro s hlo hhi
  have hf : s.afterMpatch.fileOK := State.afterMpatch_fileOK.2 ⟨hlo, hhi⟩
  refine ⟨_, exec_mpatch_of_fileOK ⟨hlo, hhi⟩, fun n => ?_, _, exec_mdetect_of_fileOK hf, ?_⟩
  · refine ⟨_, exec_mread_of_fileOK (s := { s.afterMpatch with hdrLen := n }) hf, BitVec.eq_of_toNat_eq ?_⟩
    calc _ = s.afterMpatch.headerValue := State.afterMread_hdrLen { s.afterMpatch with hdrLen := n }
      _ = s.hdrLen.toNat := s.afterMpatch_headerValue
  · have hdet : s.afterMpatch.afterMdetect.det = false ↔ s.hdrLen = 0 := by
      simp [State.afterMdetect_det, State.afterMpatch_headerValue, ← BitVec.toNat_inj]
    rw [← Bool.not_eq_false, hdet]

end Sys2Proof.Proofs

/-! PROOF. The system commands NOP (45_system.md R196) and SRST (R197). Settles O13 and O14. -/

namespace Sys2Proof.Machine

theorem exec_nop (s : State) : exec .nop s = .next (s.setErr .ok) := rfl

theorem exec_srst (s : State) : exec .srst s = .next s.resetRegisters := rfl

/-- The reading of a register depends on nothing SRST keeps. -/
theorem readReg_resetRegisters (s : State) (r : Reg) : readReg s.resetRegisters r = readReg State.reset r := by
  cases r <;> rfl

@[simp] theorem State.resetRegisters_resetRegisters (s : State) :
    s.resetRegisters.resetRegisters = s.resetRegisters := rfl

end Sys2Proof.Machine

namespace Sys2Proof.Proofs

open Sys2Proof.Machine

/-- Settles O13: NOP's one write is STATUS.ERR, so its frame is that write's. -/
theorem nopClearsErr : Obligations.NopClearsErr := by
  unfold Obligations.NopClearsErr
  refine ⟨roundTrip .nop rfl, fun s => ⟨_, exec_nop s, ?_, ?_, s.unchanged_setErr .ok noByte⟩⟩
  · exact s.setErr_err .ok
  · exact s.setErr_det .ok

/-- Settles O14: the registers read as right after reset, hence 0 but for ID (R44, R230); the frame is from the table of
writes (R45). -/
theorem srstResetsRegisters : Obligations.SrstResetsRegisters := by
  unfold Obligations.SrstResetsRegisters
  refine ⟨roundTrip .srst rfl, fun s => ⟨_, exec_srst s, readReg_resetRegisters s, fun r hr => ?_,
    s.resetRegisters_mem, exec_unchanged (exec_srst s), ?_⟩⟩
  · calc readReg s.resetRegisters r = readReg State.reset r := readReg_resetRegisters s r
      _ = if r = .id then 0x00081E20 else 0 := resetRegisterValues r
      _ = 0 := if_neg hr
  · rw [exec_srst, State.resetRegisters_resetRegisters]

end Sys2Proof.Proofs

/-! PROOF. The exceptions (60_exceptions.md): the faults of the plane commands and of EMBED's message check, how a
command can end, said once for all eleven (`CommandEnd`), and that every step ends. Settles O28, O33, O37, O40, O41
and O42. -/

namespace Sys2Proof.Machine

/-! ### The message bytes EMBED looks at (R209) -/

section
variable {s : State} {q n : Nat}

theorem State.byteAt_msgIn_storeByte_of_lt {k : Nat} (hk : k < q) (s : State) (m : Byte) :
    (s.storeBytes .msgIn q [m]).byteAt .msgIn k = s.byteAt .msgIn k := by
  rw [State.byteAt_storeBytes, if_neg fun ⟨_, hle, _⟩ => hk.not_ge hle]

theorem State.messageOK_storeByte (hq : n ≤ q) (m : Byte) :
    (s.storeBytes .msgIn q [m]).messageOK n ↔ s.messageOK n := by
  simp only [State.messageOK_iff]
  exact forall₂_congr fun k hk => by rw [State.byteAt_msgIn_storeByte_of_lt (hk.trans_le hq)]

/-- The scan looks at a byte below MSGLEN and the number of blocks only (`embedScan_congr`). -/
theorem State.embedded_storeByte {w h : Nat} (hq : min s.msgLen.toNat (capacity w h) ≤ q) (m : Byte) :
    (s.storeBytes .msgIn q [m]).embedded w h = s.embedded w h := by
  refine embedScan_congr _ _ _ _ _ _ _ _ fun k hlen hcap => State.byteAt_msgIn_storeByte_of_lt ?_ s m
  rw [length_rasterBlocks, Nat.zero_add] at hcap
  exact (lt_min hlen hcap).trans_le hq

/-- EMBED's writes leave MSGIN alone, so a byte of it that is not looked at may as well be stored after them. -/
theorem State.afterEmbed_storeByte (hq : min s.msgLen.toNat (capacity (s.width .zero) (s.height .zero)) ≤ q)
    (m : Byte) : (s.storeBytes .msgIn q [m]).afterEmbed = s.afterEmbed.storeBytes .msgIn q [m] := by
  have hscan := State.embedded_storeByte hq m
  simp only [State.afterEmbed, State.width, State.height, State.widthReg, State.heightReg, State.storeBytes_w0,
    State.storeBytes_h0] at hscan ⊢
  rw [hscan]
  rfl

end

/-! ### How a command can end (R200, R202, R203) -/

/-- The ends of the command `i` from `s`: it completes, with OK or with XDIFF's status IDENT, or it takes a fault of its
row of R202, and then STATUS.ERR is all that changes. -/
inductive CommandEnd (i : Instr) (s : State) : State → Prop
  | completes {t : State} (hdone : t.err = .ok ∨ t.err = .ident) (hcode : t.err ∈ possibleCodes i) :
    CommandEnd i s t
  | faults {c : ErrCode} (hcode : c ∈ possibleCodes i) : CommandEnd i s (s.setErr c)

section
variable {i : Instr} {s t : State}

theorem ok_mem_possibleCodes (i : Instr) : ErrCode.ok ∈ possibleCodes i := by
  cases i <;> exact List.mem_cons_self

theorem CommandEnd.ok (herr : t.err = .ok) : CommandEnd i s t :=
  .completes (.inl herr) (herr ▸ ok_mem_possibleCodes i)

theorem CommandEnd.err_mem (h : CommandEnd i s t) : t.err ∈ possibleCodes i := by
  cases h with
  | completes _ hcode => exact hcode
  | faults hcode => exact hcode

theorem CommandEnd.eq_setErr (h : CommandEnd i s t) (hok : t.err ≠ .ok) (hident : t.err ≠ .ident) :
    t = s.setErr t.err := by
  cases h with
  | completes hdone _ => exact (hdone.elim hok hident).elim
  | faults _ => rfl

/-- XDIFF is the one command with a completion status other than OK (R200, R208). -/
theorem execXdiff_end (h : execXdiff s = .next t) : CommandEnd .xdiff s t := by
  obtain ⟨-, -, -, c0, c1, bits, -, -, -, rfl⟩ | ⟨-, rfl⟩ | ⟨-, -, -, rfl⟩ := execXdiff_cases h
  · by_cases hident : bits.length = 0 ∧ 0 < s.diffLimit
    · rw [if_pos hident]
      exact .completes (.inr rfl) (by simp [possibleCodes])
    · rw [if_neg hident]
      exact .ok rfl
  · exact .faults (by simp [possibleCodes])
  · exact .faults (by simp [possibleCodes])

theorem exec_end (h : exec i s = .next t) : CommandEnd i s t := by
  cases i with
  | nop =>
    obtain rfl := execNop_cases h
    exact .ok rfl
  | srst =>
    obtain rfl := execSrst_cases h
    exact .ok rfl
  | fdct b =>
    obtain ⟨-, rfl⟩ | ⟨-, rfl⟩ := execFdct_cases h
    · exact .ok rfl
    · exact .faults (by simp [possibleCodes])
  | idct b =>
    obtain ⟨-, rfl⟩ | ⟨-, rfl⟩ := execIdct_cases h
    · exact .ok rfl
    · exact .faults (by simp [possibleCodes])
  | sel b =>
    obtain ⟨-, -, -, p, -, rfl⟩ | ⟨-, -, rfl⟩ | ⟨-, rfl⟩ := execSel_cases h
    · exact .ok rfl
    · exact .faults (by simp [possibleCodes])
    · exact .faults (by simp [possibleCodes])
  | embed =>
    obtain ⟨-, -, r, -, rfl⟩ | ⟨-, -, rfl⟩ | ⟨-, rfl⟩ := execEmbed_cases h
    · exact .ok rfl
    · exact .faults (by simp [possibleCodes])
    · exact .faults (by simp [possibleCodes])
  | xdiff => exact execXdiff_end h
  | xself b =>
    obtain ⟨-, c, bits, -, -, rfl⟩ | ⟨-, rfl⟩ := execXself_cases h
    · exact .ok rfl
    · exact .faults (by simp [possibleCodes])
  | mpatch =>
    obtain ⟨-, rfl⟩ | ⟨-, rfl⟩ := execMpatch_cases h
    · exact .ok rfl
    · exact .faults (by simp [possibleCodes])
  | mdetect =>
    obtain ⟨-, rfl⟩ | ⟨-, rfl⟩ := execMdetect_cases h
    · exact .ok rfl
    · exact .faults (by simp [possibleCodes])
  | mread =>
    obtain ⟨-, rfl⟩ | ⟨-, rfl⟩ := execMread_cases h
    · exact .ok rfl
    · exact .faults (by simp [possibleCodes])

/-- A fault of a command word, legal or not, changes STATUS.ERR alone. -/
theorem runCommand_eq_setErr {c : Word} (h : runCommand c s = .next t) (hok : t.err ≠ .ok)
    (hident : t.err ≠ .ident) : t = s.setErr t.err := by
  cases hc : decode c with
  | ok i =>
    rw [runCommand_of_decode hc] at h
    exact (exec_end h).eq_setErr hok hident
  | error e =>
    rw [runCommand_of_decode_error hc] at h
    cases h
    rfl

/-! ### Every step ends (R200) -/

theorem exec_completes (i : Instr) (s : State) : ∃ t, exec i s = .next t := by
  obtain ⟨_, _, hrun, -⟩ := exec_runsAlike (.refl i s)
  exact ⟨_, hrun⟩

theorem step_completes (s : State) : ∃ t, step s = .next t := by
  rw [step]
  split
  · exact ⟨s, rfl⟩
  · split
    · exact ⟨_, rfl⟩
    · next c u _ =>
      obtain ⟨t, hrun, -⟩ := runCommand_reply c u
      exact ⟨t, hrun⟩

end

end Sys2Proof.Machine

namespace Sys2Proof.Proofs

open Sys2Proof.Machine

/-- Settles O28: the fault of each command's own check; with equal dimensions XDIFF's check of bank 0 is one of either
bank. -/
theorem badDimensionsFault : Obligations.BadDimensionsFault := by
  unfold Obligations.BadDimensionsFault
  refine fun b s hd => ⟨fun i hi => ?_, fun hb => ?_, fun hw hh => ?_⟩
  · simp only [List.mem_cons, List.not_mem_nil, or_false] at hi
    obtain rfl | rfl | rfl | rfl := hi
    · exact exec_fdct_of_not_dimsOK hd
    · exact exec_idct_of_not_dimsOK hd
    · exact exec_sel_of_not_dimsOK hd
    · exact exec_xself_of_not_dimsOK hd
  · rw [hb] at hd
    exact exec_embed_of_not_dimsOK hd
  · refine exec_xdiff_of_not_dimsOK hw hh ?_
    cases b with
    | zero => exact hd
    | one =>
      have hwidth : s.width .zero = s.width .one := congrArg BitVec.toNat hw
      have hheight : s.height .zero = s.height .one := congrArg BitVec.toNat hh
      rwa [hwidth, hheight]

/-- Settles O33: the check and the scan see the bytes below min(MSGLEN, capacity) and no other, and neither EMBED's
writes nor its fault touch MSGIN. -/
theorem embedChecksMessageFirst : Obligations.EmbedChecksMessageFirst := by
  unfold Obligations.EmbedChecksMessageFirst
  refine fun s hd => ⟨fun ⟨q, hq, hzero, hone⟩ => ?_, fun q m hq t h => ?_⟩
  · exact exec_embed_of_not_messageOK hd fun hm => (State.messageOK_iff.1 hm q hq).elim hzero hone
  · have hd' : dimsOK (s.storeBytes .msgIn q [m]).params ((s.storeBytes .msgIn q [m]).width .zero)
        ((s.storeBytes .msgIn q [m]).height .zero) := hd
    have hcheck := State.messageOK_storeByte (s := s) hq m
    by_cases hm : s.messageOK (min s.msgLen.toNat (capacity (s.width .zero) (s.height .zero)))
    · obtain rfl : s.afterEmbed = t := Host.Outcome.next.inj ((exec_embed_of_messageOK hd hm).symm.trans h)
      rw [← State.afterEmbed_storeByte hq]
      exact exec_embed_of_messageOK hd' (hcheck.2 hm)
    · obtain rfl : s.setErr .msgFmt = t := Host.Outcome.next.inj ((exec_embed_of_not_messageOK hd hm).symm.trans h)
      exact exec_embed_of_not_messageOK hd' fun hm' => hm (hcheck.1 hm')

/-- Settles O37: the comparison of the banks' dimensions stands before the check of DimsOK. -/
theorem xdiffMismatchComesFirst : Obligations.XdiffMismatchComesFirst := by
  unfold Obligations.XdiffMismatchComesFirst
  exact fun _ => exec_xdiff_of_ne

/-- Settles O40: a command's run is one of `exec_runsAlike`, and a step that runs none is over at once. -/
theorem everyStepCompletes : Obligations.EveryStepCompletes := by
  unfold Obligations.EveryStepCompletes
  exact ⟨exec_completes, step_completes⟩

/-- Settles O41: the word runs on the state that has consumed the access and answered it, and its fault changes
STATUS.ERR alone (`CommandEnd.faults`). -/
theorem faultsArePrecise : Obligations.FaultsArePrecise := by
  unfold Obligations.FaultsArePrecise
  intro s t c rest hb h hok hident
  rw [step_write_cmd hb] at h
  exact runCommand_eq_setErr h hok hident

/-- Settles O42: either end of a command has a code of its row, and an illegal word raises ILLCMD. -/
theorem possibleErrorCodes : Obligations.PossibleErrorCodes := by
  unfold Obligations.PossibleErrorCodes
  refine ⟨fun i s t h => (exec_end h).err_mem, fun c e s t hc h => ?_⟩
  rw [runCommand_of_decode_error hc] at h
  cases h
  exact s.setErr_err .illCmd

end Sys2Proof.Proofs

/-! PROOF. The state after reset (70_reset_and_hazards.md): what the hardware reset leaves, and that with the registers
as it leaves them every plane is empty and no FILELEN is in range, so that no command has a memory element to read or
write (`State.RegistersAtReset`). Settles O11, O48 and O49. -/

namespace Sys2Proof.Machine

/-! ### The hardware reset (R230) -/

@[simp] theorem State.reset_mem (id : MemId) : State.reset.mem id = [] := by cases id <;> rfl

theorem State.reset_inv : State.reset.Inv where
  params := by decide
  canonical id := by simp [Memory.wf]
  bounded id := by simp
  count := Nat.zero_le _

theorem step_reset {s : State} {rest : List BusEvent} (hb : s.bus = .reset :: rest) :
    step s = .next (s.setBus rest).hardReset := by
  simp only [step, hb, busEffect]

theorem readReg_hardReset (s : State) (r : Reg) : readReg s.hardReset r = readReg State.reset r := by
  cases r <;> rfl

/-! ### Commands on reset registers (R232) -/

/-- Every register reads its reset value; the memories, the parameters and the model's own fields are any. -/
def State.RegistersAtReset (s : State) : Prop := ∀ r, readReg s r = readReg State.reset r

/-- The five commands that R232 says succeed, those with a bank operand on bank `b`. -/
def harmlessCommands (b : Bank) : List Instr := [.fdct b, .idct b, .xself b, .embed, .xdiff]

/-- A command with an empty plane, and with no bit decoded, has no element to write; MPATCH writes the file instead. -/
theorem not_writtenBytes_of_empty {s t : State} {i : Instr} (hw : ∀ b, s.width b = 0) (hcount : t.bitCnt = 0)
    (hi : i ≠ .mpatch) (id : MemId) (k : Nat) : ¬ writtenBytes i s t id k := by
  cases i with
  | mpatch => exact absurd rfl hi
  | _ => simp [writtenBytes, hw, hcount]

namespace State.RegistersAtReset

variable {s : State} (hs : s.RegistersAtReset) (b : Bank)
include hs

theorem w0 : s.w0 = 0 := hs .w0
theorem h0 : s.h0 = 0 := hs .h0
theorem w1 : s.w1 = 0 := hs .w1
theorem h1 : s.h1 = 0 := hs .h1
theorem msgLen : s.msgLen = 0 := hs .msgLen
theorem bitCnt : s.bitCnt = 0 := hs .bitCnt

theorem width : s.width b = 0 := by
  cases b with
  | zero => exact congrArg BitVec.toNat hs.w0
  | one => exact congrArg BitVec.toNat hs.w1

theorem height : s.height b = 0 := by
  cases b with
  | zero => exact congrArg BitVec.toNat hs.h0
  | one => exact congrArg BitVec.toNat hs.h1

/-- The empty plane passes the check of R116. -/
theorem dimsOK : dimsOK s.params (s.width b) (s.height b) := by
  simp [hs.width, hs.height]

theorem not_fileOK : ¬ s.fileOK := by
  have hlen : s.fileLen = 0 := hs .fileLen
  simp [State.fileOK, hlen]

/-- Not forced and with MSGLEN = 0, XDIFF wants no bit, so decoding none is no IDENT. -/
theorem diffLimit : s.diffLimit = 0 := by
  have hctrl : (if s.forced then 1 else 0 : Word) = 0 := (ctrlWord_eq s).symm.trans (hs .ctrl)
  have hforced : s.forced = false := by simpa using hctrl
  simp [State.diffLimit, hforced, hs.msgLen]

/-- No message byte would be used, so none can be a bad one. -/
theorem messageOK : s.messageOK (min s.msgLen.toNat (capacity (s.width .zero) (s.height .zero))) := by
  simp [State.messageOK_iff, hs.msgLen]

theorem diffBits : s.diffBits = [] := by
  rw [State.diffBits_eq_take (hs.dimsOK .zero), hs.diffLimit, List.take_zero]

theorem selfBits : s.selfBits b = [] := by
  simp [State.selfBits_eq_take, hs.msgLen]

theorem afterEmbed_bitCnt : s.afterEmbed.bitCnt = 0 :=
  BitVec.eq_of_toNat_eq (by simp [State.afterEmbed_bitCnt, hs.msgLen])

/-- Whatever the memories hold, each of these commands passes its checks and ends with OK, no bit and no dimensions. -/
theorem exec_ok {i : Instr} (hi : i ∈ harmlessCommands b) :
    ∃ t, exec i s = .next t ∧ t.err = .ok ∧ t.bitCnt = 0 ∧ t.w1 = 0 ∧ t.h1 = 0 := by
  simp only [harmlessCommands, List.mem_cons, List.not_mem_nil, or_false] at hi
  obtain rfl | rfl | rfl | rfl | rfl := hi
  · exact ⟨_, exec_fdct_of_dimsOK (hs.dimsOK b), by simp [hs.bitCnt, hs.w1, hs.h1]⟩
  · exact ⟨_, exec_idct_of_dimsOK (hs.dimsOK b), by simp [hs.bitCnt, hs.w1, hs.h1]⟩
  · exact ⟨_, exec_xself_of_dimsOK (hs.dimsOK b), by simp [State.afterXself, hs.selfBits, hs.w1, hs.h1]⟩
  · exact ⟨_, exec_embed_of_messageOK (hs.dimsOK .zero) hs.messageOK, by
      simp [hs.afterEmbed_bitCnt, hs.w0, hs.h0]⟩
  · exact ⟨_, exec_xdiff_of_dimsOK (hs.w0.trans hs.w1.symm) (hs.h0.trans hs.h1.symm) (hs.dimsOK .zero), by
      simp [State.afterXdiff, hs.diffBits, hs.diffLimit, hs.w1, hs.h1]⟩

/-- The table of writes (R45) gives such a command nothing to write. -/
theorem exec_keeps_bytes {t : State} {i : Instr} (hrun : exec i s = .next t) (hcount : t.bitCnt = 0)
    (hi : i ≠ .mpatch) (id : MemId) (k : Nat) : t.byteAt id k = s.byteAt id k :=
  (exec_unchanged hrun).bytes id k (not_writtenBytes_of_empty hs.width hcount hi id k)

/-- An empty grid has no block to select in. -/
theorem exec_sel : exec (.sel b) s = .next (s.setErr .blkRng) :=
  exec_sel_of_outside (hs.dimsOK b) (.inl (by simp [hs.height]))

end State.RegistersAtReset

end Sys2Proof.Machine

namespace Sys2Proof.Proofs

open Sys2Proof.Machine

/-- Settles O49: the planes are empty, so the five commands succeed (`exec_ok`) and the table of writes (R45) leaves
them no byte; SEL's block lies outside the empty grid, and FILELEN = 0 is below 10. -/
theorem harmlessAfterReset : Obligations.HarmlessAfterReset := by
  unfold Obligations.HarmlessAfterReset
  intro s hs
  have hreset : s.RegistersAtReset := hs
  refine ⟨fun b i hi => ?_, hreset.exec_sel, fun i hi => ?_⟩
  · obtain ⟨t, hrun, hok, hcount, hw1, hh1⟩ := hreset.exec_ok b hi
    have hne : i ≠ .mpatch := by
      rintro rfl
      simp at hi
    exact ⟨t, hrun, hok, hreset.exec_keeps_bytes hrun hcount hne, hcount, hw1, hh1⟩
  · simp only [List.mem_cons, List.not_mem_nil, or_false] at hi
    obtain rfl | rfl | rfl := hi
    · exact exec_mpatch_of_not_fileOK hreset.not_fileOK
    · exact exec_mdetect_of_not_fileOK hreset.not_fileOK
    · exact exec_mread_of_not_fileOK hreset.not_fileOK

/-- Settles O11: every register reads as in `State.reset` (R44), and an emptied memory reads as the free values of the
new reset count. -/
theorem hardResetForgetsEverything : Obligations.HardResetForgetsEverything := by
  unfold Obligations.HardResetForgetsEverything
  intro s rest hb
  refine ⟨_, step_reset hb, fun r => ?_, (s.setBus rest).hardReset_byteAt, rfl, rfl, rfl, rfl⟩
  calc readReg (s.setBus rest).hardReset r = readReg State.reset r := readReg_hardReset _ r
    _ = if r = .id then 0x00081E20 else 0 := resetRegisterValues r

/-- Settles O48: 128 and 16 meet R13, the memories are empty, and BITCNT is 0. -/
theorem invariantAtReset : Obligations.InvariantAtReset := by
  unfold Obligations.InvariantAtReset
  exact State.reset_inv

end Sys2Proof.Proofs
